-- ==== Sys2Proof/Word.lean ====
section
/-! DEFINITION. The word types of the OPSP-CPU (rules R5, R71). -/

namespace Sys2Proof

/-- 32-bit word: general and control registers, the program counter, addresses (R5, R70). -/
abbrev Word := BitVec 32
/-- 16-bit halfword: one 16-bit instruction, halfword data (R71, R100). -/
abbrev Half := BitVec 16
/-- 8-bit byte of memory (R70, R71). -/
abbrev Byte := BitVec 8
/-- A general register number field, 0 to 15 (R22, R106). -/
abbrev RegNum := BitVec 4
/-- An accumulator number field: 0 = A0, 1 = A1 (R106, R128). -/
abbrev AccNum := BitVec 1
/-- The 56 stored bits of an accumulator (R50). -/
abbrev Acc := BitVec 56
/-- The 64-bit access view of an accumulator (R50). -/
abbrev AccView := BitVec 64

end Sys2Proof
end

