-- ==== Sys2Proof/Config.lean ====
section
/-! DEFINITION. What an implementation or a platform fixes (rule R6) and the free values `draw(N)` (rule R11).
The parameters are plain data: `State` carries one `Platform`, which no step changes, so that a
statement about every state is a statement about every platform. -/

namespace Sys2Proof

/-- What a region of the address space holds (`MEM_MAP`, decision D5, rules R78 and R91). -/
inductive RegionKind where
  | ram
  | rom
  | device
  | unmapped
deriving DecidableEq, Repr

/-- One region of `MEM_MAP`: the `size` bytes from `base` on. -/
structure Region where
  base : Nat
  size : Nat
  kind : RegionKind
deriving DecidableEq, Repr

/-- What the platform says of one EIT event: `VEC_OFFSET` (R351) as a word index, so that every offset is a
multiple of 4 below 0x10000 (D8), and `EIT_SM_POLICY` (R353): whether entry clears PSW.SM or keeps it. -/
structure EventEntry where
  index : BitVec 14
  clearsSM : Bool
deriving DecidableEq, Repr

/-- The entry of an exception that an instruction raises, with `EIT_BPC_POLICY` (R354): BPC receives the address of the
instruction, or of the next instruction where `savesNext` says so. -/
structure ExceptionEntry extends EventEntry where
  savesNext : Bool
deriving DecidableEq, Repr

/-- The synchronous and asynchronous EIT events that enter through `EVB` (R341, R342). RI is not among them: it
does not go through the entry of R350 (R390). -/
inductive Event where
  /-- Reserved instruction exception (R361). -/
  | rie
  /-- Privileged instruction exception (R362). -/
  | pie
  /-- Address exception (R360). -/
  | ae
  /-- Coprocessor disable exception (R363). -/
  | cde
  /-- `TRAP #n` (R365). -/
  | trap (n : BitVec 4)
  /-- Coprocessor interrupt (R364). -/
  | cpi
  /-- External interrupt of source `k` (R347). -/
  | ei (k : Nat)
deriving DecidableEq, Repr

/-- What a user-mode access outside the user space does (`USER_ACCESS_POLICY`, R79): nothing special, an EIT event that the
platform names, or a stop. -/
inductive OutsideAccess where
  | allowed
  | raises (ev : Event)
  | refused
deriving DecidableEq, Repr

/-- What MVFC and MVTC do with a control register number that names no register (`RESERVED_CR_POLICY`, R23): a stop, an EIT
event, or a register that reads as a constant and ignores writes. -/
inductive ReservedControl where
  | refused
  | raises (ev : Event)
  | constant (value : Word)
deriving DecidableEq, Repr

/-- Bit patterns: the words whose bits under `mask` equal `bits`. -/
structure Pattern (n : Nat) where
  mask : BitVec n
  bits : BitVec n
deriving DecidableEq, Repr

/-- `bits & mask == match` (R130). -/
def Pattern.fits {n : Nat} (p : Pattern n) (w : BitVec n) : Bool :=
  w &&& p.mask == p.bits

/-- `OPECP_ENCODING` (R126, R305): the constant bits of the 32-bit word, and the position of the least significant bit of each
field. -/
structure OpecpEncoding where
  pattern : Pattern 32
  cdstAt : Nat
  csrcAt : Nat
  cpidAt : Nat
  instAt : Nat
deriving DecidableEq, Repr

/-- What the platform says of encodings: `CP_FIELDS`, `OPECP_ENCODING` and `RIE_SET` (R6). -/
structure Encoding where
  /-- `CP_FIELDS` (R302): the width of `cpid`; the three cells fill 16 bits with four zeros in the middle, so `inst` has the
  other `12 - cpidWidth`. -/
  cpidWidth : Fin 13
  /-- `OPECP_ENCODING`, where the platform supplies it. -/
  opecp : Option OpecpEncoding
  /-- `RIE_SET` (R126) is every reserved 16-bit pattern but these; bit [15] takes no part. -/
  noRie16 : List (Pattern 16)
  /-- `RIE_SET` is every reserved 32-bit word but these. -/
  noRie32 : List (Pattern 32)
deriving DecidableEq, Repr

/-- The spec's defaults (D12, D15): `cpid` of 4 bits, no encoding of OPECP, every reserved pattern raises RIE. -/
def Encoding.standard : Encoding where
  cpidWidth := 4
  opecp := none
  noRie16 := []
  noRie32 := []

/-- The parameters the source leaves to the platform (R6). `IRQ` is the set of indices of `ei`; `COPROCESSORS` is the
list of `cpid` values present (what they answer and when they are switched off are inputs of the step, R21). -/
structure Platform where
  /-- `AT_BIT`, the copy of MATM.AT in EVB b0 (R31, R80, D13). -/
  atBit : Bool
  /-- `MEM_MAP`: the first region that holds an address says what is there; an address in none is RAM. -/
  memMap : List Region
  /-- `USER_ACCESS_POLICY` of loads and stores (R79, D6). -/
  userData : OutsideAccess
  /-- `USER_ACCESS_POLICY` of instruction fetches (R79, D6). -/
  userFetch : OutsideAccess
  /-- `RESERVED_CR_POLICY` (R23, D14). -/
  reservedControl : ReservedControl
  /-- `CP_FIELDS`, `OPECP_ENCODING` and `RIE_SET` (R126, R302, R305). -/
  encoding : Encoding
  rie : ExceptionEntry
  pie : ExceptionEntry
  ae : ExceptionEntry
  cde : ExceptionEntry
  cpi : EventEntry
  /-- `VEC_OFFSET(TRAP(n))` as a word index; TRAP keeps SM by the source (R265, R353). -/
  trap : Vector (BitVec 14) 16
  /-- One entry for each external interrupt source, source 0 first (R347). -/
  ei : List EventEntry
  /-- The coprocessors present (R301). -/
  coprocessors : List (BitVec 12)
deriving DecidableEq, Repr

/-- The platform of `State.reset`. DESIGN CHOICE (log 4, unsafe for claims about runs from reset only): the defaults of
D5, D6, D9 to D15 and, for the offsets, which have no default (U17), the instance of `95_test_vectors.md`. -/
def Platform.reference : Platform where
  atBit := false
  memMap := []
  userData := .allowed
  userFetch := .allowed
  reservedControl := .refused
  encoding := Encoding.standard
  rie := { index := 0x08, clearsSM := true, savesNext := false }
  pie := { index := 0x24, clearsSM := true, savesNext := false }
  ae := { index := 0x0C, clearsSM := true, savesNext := false }
  cde := { index := 0x28, clearsSM := true, savesNext := false }
  cpi := { index := 0x2C, clearsSM := true }
  trap := #v[0x10, 0x11, 0x12, 0x13, 0x14, 0x15, 0x16, 0x17, 0x18, 0x19, 0x1A, 0x1B, 0x1C, 0x1D, 0x1E, 0x1F]
  ei := []
  coprocessors := []

namespace Config

/-- `draw(32)` (R11): the `slot`-th free 32-bit value of the `n`-th drawing step. No body: nothing is known of it (log 5). -/
opaque freeWord : Nat → Nat → BitVec 32

/-- `draw(56)` (R11), as `freeWord`. -/
opaque freeAcc : Nat → Nat → BitVec 56

/-- `draw(1)` (R11), as `freeWord`. -/
opaque freeBit : Nat → Nat → Bool

end Config

end Sys2Proof
end

