-- ==== Sys2Proof/Machine/State.lean ====
section
/-! DEFINITION. The state of the OPSP-CPU (R20), the inputs its step reads (R21, R344), and the named stops. -/

namespace Sys2Proof.Machine

/-- Memory: the written bytes in rising address order, none of them 0; every other address reads 0 (log 2). -/
abbrev Memory := List Host.Cell

/-- A request the core has sent to a coprocessor (R301): the calls `CopRead`, `CopWrite` and `CopOperate`. -/
inductive CopRequest where
  | read (cpid : BitVec 12) (creg : BitVec 4) (inst : BitVec 12)
  | write (cpid : BitVec 12) (creg : BitVec 4) (inst : BitVec 12) (value : Word)
  | operate (cpid : BitVec 12) (cdst csrc : BitVec 4) (inst : BitVec 12)
deriving DecidableEq, Repr

/-- One data access issued to a device region (R85): `MemRead` of `size` bytes, or `MemWrite` of these bytes. -/
inductive DeviceAccess where
  | read (addr : Word) (size : Nat)
  | write (addr : Word) (bytes : List Byte)
deriving DecidableEq, Repr

/-- Everything the machine holds (R20), then the inputs of its step (R21, R344), the records of its coprocessor requests (R301) and
of its device accesses (R85), the platform it stands in (R6, constant) and the model's own counter of free values (log 5). -/
structure State where
  /-- R0 to R14 (R22). R15 has no storage: it names `spi` or `spu`. -/
  gpr : Vector Word 15
  /-- CR2, stack pointer for interrupt (R30). -/
  spi : Word
  /-- CR3, stack pointer for user (R30). -/
  spu : Word
  /-- CR0, processor status word (R24). CBR (CR1) is its bit C (R29). -/
  psw : Word
  /-- CR5, the writable bits [30:16] of the EIT vector base, in place (R31). -/
  evb : Word
  /-- `EVB_written`: a first MVTC to EVB has been executed since reset (R32, R394). -/
  evbWritten : Bool
  /-- CR6, backup PC (R33). -/
  bpc : Word
  /-- Accumulator A0, the 56 stored bits (R50). -/
  acc0 : Acc
  /-- Accumulator A1 (R50). -/
  acc1 : Acc
  /-- Program counter (R54). -/
  pc : Word
  /-- The LOCK bit (R56). -/
  lock : Bool
  /-- Memory contents (R70). -/
  mem : Memory
  /-- The addresses stored to since reset, rising: what R90 and R400 need to tell self-modifying code. -/
  written : List Nat
  /-- Input: reset is asserted (R344, R346). -/
  resetRequest : Bool
  /-- Input: the external interrupt sources whose request is pending (R347). -/
  eiPending : List Nat
  /-- Input: `CPI_pending` (R301, R364). -/
  cpiPending : Bool
  /-- Input: the coprocessors that are switched off, the part of `CopDisabled` the environment decides (R301). -/
  copDisabled : List (BitVec 12)
  /-- Input: the values the coprocessors will return for the next reads, in order (`CopRead`, R301); a read past the end returns a
  free value. -/
  copAnswers : List Word
  /-- The requests sent to the coprocessors, oldest first (R301). -/
  copRequests : List CopRequest
  /-- Input: the values the devices will return for the next reads, in order (R21); a read past the end returns a free value. -/
  deviceAnswers : List Word
  /-- The data accesses issued to device regions, oldest first (R85). -/
  deviceAccesses : List DeviceAccess
  /-- The platform's parameters (R6); no step changes them. -/
  platform : Platform
  /-- The model's own counter: how many steps have drawn free values (R11, log 5). -/
  draws : Nat
deriving DecidableEq, Repr

/-- The machine stops with a fault. -/
inductive Fault where
  /-- A data access or an instruction fetch touches an address where `MEM_MAP` has nothing: no result is specified
  (R91, D5). Safe: the hardware may go on, the model does not. -/
  | unmapped (addr : Word)
deriving DecidableEq, Repr

/-- The model gives the run no meaning. Every one of these is a decision of `92_eei_decisions.md`; all are safe: the hardware
does something the source does not say, the model proves nothing about it. -/
inductive Refusal where
  /-- An instruction without a meaning yet; raised by `exec` only. -/
  | notModelled (mnemonic : String)
  /-- MVFC or MVTC with control register number 4 or 7 to 15, on a platform whose policy is to refuse (R23, D14). -/
  | reservedControlRegister (number : BitVec 4)
  /-- A second MVTC to EVB since reset (R32, R394, D19). -/
  | secondEvbWrite
  /-- MVTC to PSW or SETPSW switching PM from 0 to 1 at an address outside the user space (R373, D32). -/
  | pmChangeOutsideUserSpace
  /-- `LD Rd,@Rd+`, `ST Rs,@+Rs`, `ST Rs,@-Rs` (R151, D28). -/
  | sameRegisterUpdate
  /-- SC or SNC in the upper halfword with a sequential lower halfword (R251, R252, D18). -/
  | skipWithoutPair
  /-- A parallel pair outside the combinations of R314 and R315 (D17). -/
  | invalidPair
  /-- Entry at `A + 2` of a word that is not two sequential halfwords (R317, D7). -/
  | badHalfwordEntry
  /-- The word fetched holds a byte stored to since reset (R90, R400, D3). -/
  | selfModifiedCode (addr : Word)
  /-- Instruction fetch from a device region (R85, D3). -/
  | deviceFetch (addr : Word)
  /-- A user-mode access outside the user space, on a platform whose policy is to stop it (R79, D6). -/
  | userAccess (addr : Word)
  /-- A reserved pattern that the platform takes out of `RIE_SET` (R126): the source says nothing of it. -/
  | reservedPattern
  /-- Store to a ROM region, whose behaviour is the platform's (R78). -/
  | romStore (addr : Word)
deriving DecidableEq, Repr

/-- The machine right after reset (R60, R390). Stated by the spec: `pc`, `psw[7:0]` and the reserved bits, `evb`,
`evbWritten`. DESIGN CHOICE 0 for every register without a stated value (log 3), nothing listed in memory (log 2), no input
asserted, the platform of log 4. -/
def State.reset : State where
  gpr := Vector.replicate 15 0
  spi := 0
  spu := 0
  psw := 0
  evb := 0
  evbWritten := false
  bpc := 0
  acc0 := 0
  acc1 := 0
  pc := 0
  lock := false
  mem := []
  written := []
  resetRequest := false
  eiPending := []
  cpiPending := false
  copDisabled := []
  copAnswers := []
  copRequests := []
  deviceAnswers := []
  deviceAccesses := []
  platform := Platform.reference
  draws := 0

end Sys2Proof.Machine
end

