-- ==== Sys2Proof/Machine/Flags.lean ====
section
/-! DEFINITION. The bits of the PSW (R24), the flag computations (R170 to R177) and what EIT entry and return make of the PSW
(R350, R355). -/

namespace Sys2Proof.Machine

/-- The ten implemented bits of the PSW (R24); the others are hardwired 0 (R25). -/
def pswMask : Word := 0x0000CDCD

/-- SM, stack mode: 0 selects SPI, 1 selects SPU (R24, R27). -/
def psw_sm (p : Word) : Bool := p.getLsbD 7
/-- IE, interrupt enable (R24). -/
def psw_ie (p : Word) : Bool := p.getLsbD 6
/-- PM, processor mode: 0 supervisor, 1 user (R24). -/
def psw_pm (p : Word) : Bool := p.getLsbD 3
/-- CE, coprocessor interrupt enable (R24). -/
def psw_ce (p : Word) : Bool := p.getLsbD 2
/-- C, the condition bit (R24, R28). -/
def psw_c (p : Word) : Bool := p.getLsbD 0
/-- BSM, backup of SM (R24). -/
def psw_bsm (p : Word) : Bool := p.getLsbD 15
/-- BIE, backup of IE (R24). -/
def psw_bie (p : Word) : Bool := p.getLsbD 14
/-- BPM, backup of PM (R24). -/
def psw_bpm (p : Word) : Bool := p.getLsbD 11
/-- BCE, backup of CE (R24). -/
def psw_bce (p : Word) : Bool := p.getLsbD 10
/-- BC, backup of C (R24). -/
def psw_bc (p : Word) : Bool := p.getLsbD 8

/-- One bit as a word. -/
def boolWord (b : Bool) : Word := if b then 1 else 0

/-- The PSW with its bit C set to `c`, the other bits kept (R28). -/
def withCond (p : Word) (c : Bool) : Word :=
  (p &&& 0xFFFFFFFE) ||| boolWord c

/-- The PSW after EIT entry: SM, IE, PM, CE, C saved in the BPSW field, then IE, PM, CE, C cleared and SM kept or cleared
(R350, R353). -/
def entryPsw (clearsSM : Bool) (p : Word) : Word :=
  ((p &&& 0xCD) <<< 8) ||| (if clearsSM then 0 else p &&& 0x80)

/-- The PSW after RTE: the BPSW field kept, its bits copied to SM, IE, PM, CE, C (R266, R355). -/
def returnPsw (p : Word) : Word :=
  (p &&& 0xCD00) ||| ((p >>> 8) &&& 0xCD)

/-- The PSW after SETPSW: the low byte is `(PSW[7:0] | imm8) & 0xCD`, so reserved bits of `imm8` are dropped (R263, D16). -/
def setPsw (p : Word) (imm8 : BitVec 8) : Word :=
  (p ||| imm8.setWidth 32) &&& 0xFFFFFFCD

/-- The PSW after CLRPSW: only the low byte can lose bits (R264). -/
def clearPsw (p : Word) (imm8 : BitVec 8) : Word :=
  p &&& ~~~(imm8.setWidth 32)

/-- `add_overflow(a, b, r)` of R170. -/
def addOverflow (a b r : Word) : Bool :=
  a.getLsbD 31 == b.getLsbD 31 && r.getLsbD 31 != a.getLsbD 31

/-- `sub_overflow(a, b, r)` of R170. -/
def subOverflow (a b r : Word) : Bool :=
  a.getLsbD 31 != b.getLsbD 31 && r.getLsbD 31 != a.getLsbD 31

/-- Carry out of the exact sum `a + b + c` (R183). -/
def carryOut (a b : Word) (c : Bool) : Bool :=
  decide (2 ^ 32 ≤ a.toNat + b.toNat + c.toNat)

/-- Borrow of the exact difference `a - b - c` (R187). -/
def borrowOut (a b : Word) (c : Bool) : Bool :=
  decide (a.toNat < b.toNat + c.toNat)

/-- Signed `a < b` (R171, R173). -/
def lessSigned (a b : Word) : Bool := a.slt b

/-- Unsigned `a < b` (R174, R175). -/
def lessUnsigned (a b : Word) : Bool := a.ult b

/-- One of the four packed bytes is 0 (R177). -/
def anyByteZero (v : Word) : Bool :=
  v.extractLsb' 24 8 == 0 || v.extractLsb' 16 8 == 0 || v.extractLsb' 8 8 == 0 || v.extractLsb' 0 8 == 0

end Sys2Proof.Machine
end

