-- ==== Sys2Proof/Machine/Ops.lean ====
section
/-! DEFINITION. The shared operations: memory, registers, what an instruction does (`Action`), committing it, EIT entry and
return, and reset. Every instruction's writes are computed on the state before it (R12) and committed together. -/

namespace Sys2Proof.Machine

/-- One step's outcome. -/
abbrev Result := Host.Outcome State Fault Refusal

/-! ### Memory -/

/-- What an unlisted address reads as (log 2). -/
def unlistedByte : Byte := 0

/-- The byte at address `a` (R70). -/
def memGet : Memory → Nat → Byte
  | [], _ => unlistedByte
  | (b, v) :: rest, a => if b = a then v else memGet rest a

/-- Memory with the byte at `a` set; the canonical form is kept: the value an unlisted address reads as is not listed. -/
def memSet : Memory → Nat → Byte → Memory
  | [], a, v => if v = unlistedByte then [] else [(a, v)]
  | (b, w) :: rest, a, v =>
    if a < b then (if v = unlistedByte then (b, w) :: rest else (a, v) :: (b, w) :: rest)
    else if a = b then (if v = unlistedByte then rest else (a, v) :: rest)
    else (b, w) :: memSet rest a v

/-- The canonical form from address `lo` on: addresses rising, below 2^32, no byte equal to what an unlisted address reads as. -/
def memWfFrom : Nat → Memory → Bool
  | _, [] => true
  | lo, (a, v) :: rest => decide (lo ≤ a) && decide (a < 2 ^ 32) && v != unlistedByte && memWfFrom (a + 1) rest

/-- The canonical form of memory. -/
def Memory.wf (m : Memory) : Bool := memWfFrom 0 m

/-- `MemRead(a, 1)` (R72). -/
def readByte (m : Memory) (a : Word) : Byte := memGet m a.toNat

/-- `MemRead(a, 2)`, big-endian (R72, log 1). -/
def readHalf (m : Memory) (a : Word) : Half := readByte m a ++ readByte m (a + 1)

/-- `MemRead(a, 4)`, big-endian (R72, log 1). -/
def readWord (m : Memory) (a : Word) : Word := readHalf m a ++ readHalf m (a + 2)

/-- Store the bytes from `a` on, addresses wrapping modulo 2^32 (R72, R75). -/
def writeBytes : Memory → Word → List Byte → Memory
  | m, _, [] => m
  | m, a, b :: rest => writeBytes (memSet m a.toNat b) (a + 1) rest

/-- The bytes of a halfword, most significant first (R72). -/
def halfBytes (v : Half) : List Byte := [v.extractLsb' 8 8, v.extractLsb' 0 8]

/-- The bytes of a word, most significant first (R72). -/
def wordBytes (v : Word) : List Byte :=
  [v.extractLsb' 24 8, v.extractLsb' 16 8, v.extractLsb' 8 8, v.extractLsb' 0 8]

/-- A rising list of addresses with `a` added once. -/
def insertAddr : List Nat → Nat → List Nat
  | [], a => [a]
  | b :: rest, a => if a < b then a :: b :: rest else if a = b then b :: rest else b :: insertAddr rest a

/-- Record that the `n` bytes from `a` on have been stored to (R90). -/
def noteWritten : List Nat → Word → Nat → List Nat
  | l, _, 0 => l
  | l, a, n + 1 => noteWritten (insertAddr l a.toNat) (a + 1) n

/-! ### The memory map and stops -/

/-- A named stop of the model. -/
inductive Stop where
  | fault (f : Fault)
  | refuse (r : Refusal)
deriving DecidableEq, Repr

/-- What `MEM_MAP` has at an address: the first region that holds it, RAM where none does (R78, D5, log 7). -/
def regionAt (p : Platform) (a : Word) : RegionKind :=
  match p.memMap.find? (fun r => decide (r.base ≤ a.toNat) && decide (a.toNat < r.base + r.size)) with
  | some r => r.kind
  | none => .ram

/-- The kind of a memory access. -/
inductive Access where
  | load
  | store
  | fetch
deriving DecidableEq, Repr

/-- The stop that an access to one byte meets (R85, R91, D3, D5, log 7). A data access to a device is issued, not stopped. -/
def byteStop (p : Platform) (k : Access) (a : Word) : Option Stop :=
  match regionAt p a, k with
  | .unmapped, _ => some (.fault (.unmapped a))
  | .device, .fetch => some (.refuse (.deviceFetch a))
  | .device, _ => none
  | .rom, .store => some (.refuse (.romStore a))
  | .rom, _ => none
  | .ram, _ => none

/-- The first stop met by an access to `n` bytes from `a` on. -/
def accessStop (p : Platform) (k : Access) : Word → Nat → Option Stop
  | _, 0 => none
  | a, n + 1 =>
    match byteStop p k a with
    | some st => some st
    | none => accessStop p k (a + 1) n

/-- The `n` bytes from `a` on touch a device region, so that the access is issued to the device (R85). -/
def onDevice (p : Platform) : Word → Nat → Bool
  | _, 0 => false
  | a, n + 1 => regionAt p a == .device || onDevice p (a + 1) n

/-- Halfword data stand at even addresses, word data at multiples of 4 (R74). -/
def misaligned (n : Nat) (a : Word) : Bool :=
  (n == 2 && a.getLsbD 0) || (n == 4 && (a.getLsbD 0 || a.getLsbD 1))

/-! ### Registers -/

/-- A general register's storage: R0 to R14, SPI or SPU (R22). -/
inductive Slot where
  | r (n : Fin 15)
  | spi
  | spu
deriving DecidableEq, Repr

/-- The storage a register number names: R15 is SPI when SM = 0 and SPU when SM = 1, by the SM before the instruction (R22). -/
def slotOf (s : State) (r : RegNum) : Slot :=
  if h : r.toNat < 15 then .r ⟨r.toNat, h⟩ else if psw_sm s.psw then .spu else .spi

/-- Read a register's storage. -/
def readSlot (s : State) : Slot → Word
  | .r n => s.gpr[n]
  | .spi => s.spi
  | .spu => s.spu

/-- Write a register's storage. -/
def writeSlot (s : State) (sl : Slot) (v : Word) : State :=
  match sl with
  | .r n => { s with gpr := s.gpr.set n v }
  | .spi => { s with spi := v }
  | .spu => { s with spu := v }

/-- `x[r]` (R22). -/
def readReg (s : State) (r : RegNum) : Word := readSlot s (slotOf s r)

/-- `AccRead(a)` (R50). -/
def accRead (s : State) (a : AccNum) : AccView :=
  (if a = 0 then s.acc0 else s.acc1).signExtend 64

/-- EVB as it reads: `AT_BIT :: EVB[30:16] :: 0x0000` (R31). -/
def evbRead (s : State) : Word :=
  (if s.platform.atBit then 0x80000000 else 0) ||| (s.evb &&& 0x7FFF0000)

/-- The processor is in user mode, PM = 1 (R27, R370). -/
def userMode (s : State) : Bool := psw_pm s.psw

/-! ### What an instruction does -/

/-- The bytes an instruction stores, first at `addr`. -/
structure Store where
  addr : Word
  bytes : List Byte
deriving DecidableEq, Repr

/-- The writes of one instruction or pair (R12, R320); what is not named is unchanged. `cond` is a write of PSW.C, on top of
`psw` where both are given. `draws`: the writes use free values. `cancels`: the partner of a pair is cancelled (R251). -/
structure Effect where
  regs : List (Slot × Word) := []
  psw : Option Word := none
  cond : Option Bool := none
  evb : Option Word := none
  bpc : Option Word := none
  acc0 : Option Acc := none
  acc1 : Option Acc := none
  lock : Option Bool := none
  store : Option Store := none
  cop : Option CopRequest := none
  /-- Answers of the coprocessors that are used up. -/
  copReads : Nat := 0
  /-- Accesses issued to devices, in order. -/
  device : List DeviceAccess := []
  /-- Answers of the devices that are used up. -/
  deviceReads : Nat := 0
  pc : Option Word := none
  draws : Bool := false
  cancels : Bool := false
deriving DecidableEq, Repr

/-- What one instruction does on a state: its writes, the exception it raises (with none of its writes, R11), or a stop. -/
inductive Action where
  | writes (e : Effect)
  | raises (ev : Event)
  | stops (st : Stop)
deriving DecidableEq, Repr

/-- Where a 16-bit instruction executes: alone, or as the upper half of a parallel pair (R310). -/
inductive Position where
  | alone
  | pair
deriving DecidableEq, Repr

/-- The address of the next unit in order after a 16-bit instruction at `pc` (R265, R311). -/
def nextPc (pos : Position) (pc : Word) : Word :=
  match pos with
  | .alone => pc + 2
  | .pair => pc + 4

/-- Write a general register. -/
def setReg (s : State) (r : RegNum) (v : Word) : Effect := { regs := [(slotOf s r, v)] }

/-- Write the condition bit. -/
def setCond (c : Bool) : Effect := { cond := some c }

/-- Write an accumulator, `AccWrite(a, v)` (R51). -/
def setAcc (a : AccNum) (v : AccView) : Effect :=
  if a = 0 then { acc0 := some (v.setWidth 56) } else { acc1 := some (v.setWidth 56) }

/-- Set the pc. -/
def jumpTo (target : Word) : Effect := { pc := some target }

/-- Memory after an optional store. -/
def commitMem (m : Memory) : Option Store → Memory
  | some st => writeBytes m st.addr st.bytes
  | none => m

/-- The stored-to set after an optional store. -/
def commitWritten (l : List Nat) : Option Store → List Nat
  | some st => noteWritten l st.addr st.bytes.length
  | none => l

/-- The PSW after an effect: the whole-register write if there is one, then the write of C. -/
def commitPsw (p : Word) (e : Effect) : Word :=
  match e.cond with
  | some c => withCond (e.psw.getD p) c
  | none => e.psw.getD p

/-- The register writes, each to its own slot. -/
def commitRegs (s : State) (regs : List (Slot × Word)) : State :=
  regs.foldl (fun t w => writeSlot t w.1 w.2) s

/-- Apply all writes of an effect at once; `next` is the pc where the effect sets none (R12, R13, R320). -/
def commit (e : Effect) (next : Word) (s : State) : State :=
  { commitRegs s e.regs with
    psw := commitPsw s.psw e
    evb := e.evb.getD s.evb
    evbWritten := s.evbWritten || e.evb.isSome
    bpc := e.bpc.getD s.bpc
    acc0 := e.acc0.getD s.acc0
    acc1 := e.acc1.getD s.acc1
    lock := e.lock.getD s.lock
    mem := commitMem s.mem e.store
    written := commitWritten s.written e.store
    copRequests := s.copRequests ++ e.cop.toList
    copAnswers := s.copAnswers.drop e.copReads
    deviceAccesses := s.deviceAccesses ++ e.device
    deviceAnswers := s.deviceAnswers.drop e.deviceReads
    pc := e.pc.getD next
    draws := if e.draws then s.draws + 1 else s.draws }

/-! ### Taking an exception and returning from one -/

/-- What the platform says of an event (R351, R353). TRAP keeps SM (R265). A source outside `IRQ` is never taken. -/
def eventEntry (p : Platform) : Event → EventEntry
  | .rie => p.rie.toEventEntry
  | .pie => p.pie.toEventEntry
  | .ae => p.ae.toEventEntry
  | .cde => p.cde.toEventEntry
  | .cpi => p.cpi
  | .trap n => { index := p.trap[n.toFin], clearsSM := false }
  | .ei k => p.ei.getD k p.cpi

/-- What BPC receives for an event at the unit at `pc`, with `next` the address after it (R354): for an exception what the
platform's `EIT_BPC_POLICY` says (D10: the instruction itself), for TRAP the next unit, for an interrupt the unit that has not
executed. -/
def savedPc (p : Platform) (ev : Event) (pc next : Word) : Word :=
  match ev with
  | .rie => if p.rie.savesNext then next else pc
  | .pie => if p.pie.savesNext then next else pc
  | .ae => if p.ae.savesNext then next else pc
  | .cde => if p.cde.savesNext then next else pc
  | .trap _ => next
  | .cpi => pc
  | .ei _ => pc

/-- `VB + VEC_OFFSET(e)` (R350, R351). -/
def vectorAddress (s : State) (ev : Event) : Word :=
  (evbRead s &&& 0xFFFF0000) + ((eventEntry s.platform ev).index ++ 0#2).setWidth 32

/-- EIT entry with BPC ← `ret` (R350): nothing else is written. -/
def entryEffect (ev : Event) (ret : Word) (s : State) : Effect :=
  { psw := some (entryPsw (eventEntry s.platform ev).clearsSM s.psw)
    cond := some false
    bpc := some (ret &&& 0xFFFFFFFE)
    pc := some (vectorAddress s ev) }

/-- The machine after EIT entry (R350). -/
def enterEIT (ev : Event) (ret : Word) (s : State) : State :=
  commit (entryEffect ev ret s) ret s

/-- The return from EIT: the BPSW field back to the PSW field, the pc from BPC (R266, R355). -/
def returnEffect (s : State) : Effect :=
  { psw := some (returnPsw s.psw)
    cond := some (psw_bc s.psw)
    pc := some (s.bpc &&& 0xFFFFFFFE) }

/-- The named stop as a step outcome. -/
def stopResult : Stop → Result
  | .fault f => .fault f
  | .refuse r => .refused r

/-- Carry out an action of an instruction of `len` bytes at `pc`: commit its writes, or enter EIT with BPC as R354 says
(R343). -/
def finish (len : Word) (a : Action) (s : State) : Result :=
  match a with
  | .writes e => .next (commit e (s.pc + len) s)
  | .raises ev => .next (enterEIT ev (savedPc s.platform ev s.pc (s.pc + len)) s)
  | .stops st => stopResult st

/-! ### Checks shared by the instructions -/

/-- The user space (R78). -/
def inUserSpace (a : Word) : Bool := !a.getLsbD 31

/-- What the platform's policy does with an access at `a` before it is made: nothing in supervisor mode, in the user space, or
where the policy allows it (R79, D6, log 8). -/
def outsideAccess (policy : OutsideAccess) (s : State) (a : Word) : Option Action :=
  if userMode s && !inUserSpace a then
    match policy with
    | .allowed => none
    | .raises ev => some (.raises ev)
    | .refused => some (.stops (.refuse (.userAccess a)))
  else none

/-- The checks of a data access of `n` bytes before anything is done: alignment (AE, R74, R360), the platform's rule for user
mode (R79), then the memory map. -/
def checked (k : Access) (n : Nat) (a : Word) (s : State) (act : Action) : Action :=
  if misaligned n a then .raises .ae
  else match outsideAccess s.platform.userData s a with
    | some out => out
    | none =>
      match accessStop s.platform k a n with
      | some st => .stops st
      | none => act

/-! ### Data accesses -/

/-- `MemRead(a, n)` of memory, zero-extended (R11, R72). -/
def memRead (m : Memory) (a : Word) (n : Nat) : Word :=
  match n with
  | 1 => (readByte m a).setWidth 32
  | 2 => (readHalf m a).setWidth 32
  | _ => readWord m a

/-- The value a device returns for the next read: the environment's answer, or a free value (R21, R85, log 7). -/
def deviceAnswer (s : State) : Word := s.deviceAnswers.headD (Config.freeWord s.draws 6)

/-- The value of one read of `n` bytes at `a`, zero-extended: memory, or the low bytes of what the device returns. -/
def dataRead (a : Word) (n : Nat) (s : State) : Word :=
  if onDevice s.platform a n then deviceAnswer s &&& ((1#32 <<< (8 * n)) - 1) else memRead s.mem a n

/-- An effect with one read of `n` bytes at `a`: a device sees the access once (R85). -/
def withRead (a : Word) (n : Nat) (s : State) (e : Effect) : Effect :=
  if onDevice s.platform a n then
    { e with device := e.device ++ [.read a n], deviceReads := 1, draws := e.draws || s.deviceAnswers.isEmpty }
  else e

/-- An effect with one write of `bytes` at `a`: memory is written, or a device sees the access once (R85). -/
def withWrite (a : Word) (bytes : List Byte) (s : State) (e : Effect) : Effect :=
  if onDevice s.platform a bytes.length then { e with device := e.device ++ [.write a bytes] }
  else { e with store := some { addr := a, bytes := bytes } }

/-- A privileged instruction: PIE in user mode, checked before anything else (R362). -/
def privileged (s : State) (act : Action) : Action :=
  if userMode s then .raises .pie else act

/-- `CopDisabled(cpid)` (R301): the coprocessor is not in `COPROCESSORS` (D12), or the environment has switched it off. -/
def copIsDisabled (s : State) (cpid : BitVec 12) : Bool :=
  !s.platform.coprocessors.contains cpid || s.copDisabled.contains cpid

/-- A coprocessor instruction: CDE with no effect when the coprocessor is disabled (R301, R363). -/
def withCoprocessor (cpid : BitVec 12) (s : State) (act : Action) : Action :=
  if copIsDisabled s cpid then .raises .cde else act

/-- The value the coprocessors return for the next read: the environment's answer, or a free value (R301, log 19). -/
def copAnswer (s : State) : Word := s.copAnswers.headD (Config.freeWord s.draws 1)

/-- A control register number that names no register: what the platform's `RESERVED_CR_POLICY` says (R23, D14, log 10); `ok`
gives the action where such a register reads as a constant and ignores writes. -/
def reservedControl (s : State) (cr : BitVec 4) (ok : Word → Action) : Action :=
  match s.platform.reservedControl with
  | .refused => .stops (.refuse (.reservedControlRegister cr))
  | .raises ev => .raises ev
  | .constant v => ok v

/-- A write of the whole PSW that switches PM from 0 to 1 is allowed in the user space only (R373, D32). -/
def checkedPm (s : State) (new : Word) (act : Action) : Action :=
  if !psw_pm s.psw && psw_pm new && !inUserSpace s.pc then .stops (.refuse .pmChangeOutsideUserSpace) else act

/-! ### Reset -/

/-- PSW after a reset taken by the step: the backup bits are indeterminate (R60, R390). -/
def resetPsw (n : Nat) : Word :=
  (boolWord (Config.freeBit n 1) <<< 15) ||| (boolWord (Config.freeBit n 2) <<< 14)
    ||| (boolWord (Config.freeBit n 3) <<< 11) ||| (boolWord (Config.freeBit n 4) <<< 10)
    ||| (boolWord (Config.freeBit n 5) <<< 8)

/-- RI, the reset interrupt taken by the step (R346, R390): every value the source leaves open is free, memory and the
platform's inputs are kept, the request is consumed (log 18). -/
def takeReset (s : State) : State :=
  { s with
    gpr := Vector.ofFn (fun i => Config.freeWord s.draws (16 + i.val))
    spi := Config.freeWord s.draws 3
    spu := Config.freeWord s.draws 4
    psw := resetPsw s.draws
    evb := 0
    evbWritten := false
    bpc := Config.freeWord s.draws 5 &&& 0xFFFFFFFE
    acc0 := Config.freeAcc s.draws 0
    acc1 := Config.freeAcc s.draws 1
    pc := 0
    lock := Config.freeBit s.draws 6
    written := []
    resetRequest := false
    draws := s.draws + 1 }

end Sys2Proof.Machine
end

