-- ==== Sys2Proof/Machine/Operands.lean ====
section
/-! DEFINITION. The operand forms: immediates, effective addresses, branch targets and link values, the halves of the DSP
operands (R106, R75, R230, R270). -/

namespace Sys2Proof.Machine

/-- `sext_32` of an immediate, displacement or loaded datum (R9, R106). -/
def sext {n : Nat} (v : BitVec n) : Word := v.signExtend 32

/-- `zext_32` (R9, R106). -/
def zext {n : Nat} (v : BitVec n) : Word := v.setWidth 32

/-- `@(disp16,R)`: register value plus the sign-extended displacement, modulo 2^32 (R75, R106). -/
def eaDisp (s : State) (disp16 : BitVec 16) (r : RegNum) : Word := readReg s r + sext disp16

/-- The word that holds the instruction at `pc` (R230). -/
def wordBase (pc : Word) : Word := pc &&& 0xFFFFFFFC

/-- The target of a pc-relative branch: the displacement counts words from the word that holds the branch (R230). -/
def branchTarget {n : Nat} (pc : Word) (disp : BitVec n) : Word := wordBase pc + (sext disp <<< 2)

/-- The target of a register jump: the two low bits are ignored (R230). -/
def jumpTarget (v : Word) : Word := v &&& 0xFFFFFFFC

/-- The value a linking branch writes to R14 (R230). -/
def linkValue (pc : Word) : Word := wordBase pc + 4

/-- R14, the link register (R22). -/
def linkReg : RegNum := 14

/-- `7 - bitpos`: the manual numbers the bits of a byte from the most significant one (R106, R260). -/
def bitIndex (bitpos : BitVec 3) : Nat := 7 - bitpos.toNat

/-- The shift count of a register operand: its five low bits (R215). -/
def shiftCount (v : Word) : Nat := (v.extractLsb' 0 5).toNat

/-- The shift count of a 16-bit immediate: its five low bits (R215). -/
def shiftCount16 (imm16 : BitVec 16) : Nat := (imm16.extractLsb' 0 5).toNat

/-- `hi16(r)`, signed, in the 64-bit accumulator view (R270). -/
def hi16 (v : Word) : AccView := (v.extractLsb' 16 16).signExtend 64

/-- `lo16(r)`, signed (R270). -/
def lo16 (v : Word) : AccView := (v.extractLsb' 0 16).signExtend 64

/-- `ulo16(r)`, unsigned (R270). -/
def ulo16 (v : Word) : AccView := (v.extractLsb' 0 16).setWidth 64

/-- `s32(r)`, signed (R270). -/
def s32 (v : Word) : AccView := v.signExtend 64

end Sys2Proof.Machine
end

