-- ==== Sys2Proof/Syntax.lean ====
section
/-! DEFINITION. The instruction syntax: one constructor for each row of `spec/opcode_table.json`, its operands in the
order of the manual's mnemonic line (R110), each field the bit string of its printed width (R105, R106).
Only `imm1` of RAC and RACH is the assembler's operand, 1 or 2, not the encoded bit (R106). -/

namespace Sys2Proof

/-- Every encoding form of the 115 instructions (R120 to R122); `opecp` has no known encoding (R305). -/
inductive Instr where
  -- Load and store (`40_load_store.md`)
  /-- `LD Rdest,@Rsrc` (R141) -/
  | ldInd (dest src : RegNum)
  /-- `LD Rdest,@Rsrc+` (R141) -/
  | ldPost (dest src : RegNum)
  /-- `LD Rdest,@(disp16,Rsrc)` (R141) -/
  | ldDisp (dest : RegNum) (disp16 : BitVec 16) (src : RegNum)
  /-- `LDB Rdest,@Rsrc` (R142) -/
  | ldbInd (dest src : RegNum)
  /-- `LDB Rdest,@(disp16,Rsrc)` (R142) -/
  | ldbDisp (dest : RegNum) (disp16 : BitVec 16) (src : RegNum)
  /-- `LDUB Rdest,@Rsrc` (R143) -/
  | ldubInd (dest src : RegNum)
  /-- `LDUB Rdest,@(disp16,Rsrc)` (R143) -/
  | ldubDisp (dest : RegNum) (disp16 : BitVec 16) (src : RegNum)
  /-- `LDH Rdest,@Rsrc` (R144) -/
  | ldhInd (dest src : RegNum)
  /-- `LDH Rdest,@(disp16,Rsrc)` (R144) -/
  | ldhDisp (dest : RegNum) (disp16 : BitVec 16) (src : RegNum)
  /-- `LDUH Rdest,@Rsrc` (R145) -/
  | lduhInd (dest src : RegNum)
  /-- `LDUH Rdest,@(disp16,Rsrc)` (R145) -/
  | lduhDisp (dest : RegNum) (disp16 : BitVec 16) (src : RegNum)
  /-- `LOCK Rdest,@Rsrc` (R146) -/
  | lock (dest src : RegNum)
  /-- `ST Rsrc1,@Rsrc2` (R147) -/
  | stInd (src1 src2 : RegNum)
  /-- `ST Rsrc1,@+Rsrc2` (R147) -/
  | stPreInc (src1 src2 : RegNum)
  /-- `ST Rsrc1,@-Rsrc2` (R147) -/
  | stPreDec (src1 src2 : RegNum)
  /-- `ST Rsrc1,@(disp16,Rsrc2)` (R147) -/
  | stDisp (src1 : RegNum) (disp16 : BitVec 16) (src2 : RegNum)
  /-- `STB Rsrc1,@Rsrc2` (R148) -/
  | stbInd (src1 src2 : RegNum)
  /-- `STB Rsrc1,@Rsrc2+` (R148) -/
  | stbPost (src1 src2 : RegNum)
  /-- `STB Rsrc1,@(disp16,Rsrc2)` (R148) -/
  | stbDisp (src1 : RegNum) (disp16 : BitVec 16) (src2 : RegNum)
  /-- `STH Rsrc1,@Rsrc2` (R149) -/
  | sthInd (src1 src2 : RegNum)
  /-- `STH Rsrc1,@Rsrc2+` (R149) -/
  | sthPost (src1 src2 : RegNum)
  /-- `STH Rsrc1,@(disp16,Rsrc2)` (R149) -/
  | sthDisp (src1 : RegNum) (disp16 : BitVec 16) (src2 : RegNum)
  /-- `UNLOCK Rsrc1,@Rsrc2` (R150) -/
  | unlock (src1 src2 : RegNum)
  -- Transfer (`41_transfer.md`)
  /-- `LD24 Rdest,#imm24` (R161) -/
  | ld24 (dest : RegNum) (imm24 : BitVec 24)
  /-- `LDI Rdest,#imm8` (R162) -/
  | ldi8 (dest : RegNum) (imm8 : BitVec 8)
  /-- `LDI Rdest,#imm16` (R162) -/
  | ldi16 (dest : RegNum) (imm16 : BitVec 16)
  /-- `MV Rdest,Rsrc` (R163) -/
  | mv (dest src : RegNum)
  /-- `MVFC Rdest,CRsrc` (R164) -/
  | mvfc (dest : RegNum) (cr : BitVec 4)
  /-- `MVTC Rsrc,CRdest` (R165) -/
  | mvtc (src : RegNum) (cr : BitVec 4)
  /-- `SETH Rdest,#imm16` (R166) -/
  | seth (dest : RegNum) (imm16 : BitVec 16)
  -- Comparison, arithmetic, logic (`42_compare_arith_logic.md`)
  /-- `CMP Rsrc1,Rsrc2` (R171) -/
  | cmp (src1 src2 : RegNum)
  /-- `CMPEQ Rsrc1,Rsrc2` (R172) -/
  | cmpeq (src1 src2 : RegNum)
  /-- `CMPI Rsrc,#imm16` (R173) -/
  | cmpi (src : RegNum) (imm16 : BitVec 16)
  /-- `CMPU Rsrc1,Rsrc2` (R174) -/
  | cmpu (src1 src2 : RegNum)
  /-- `CMPUI Rsrc,#imm16` (R175) -/
  | cmpui (src : RegNum) (imm16 : BitVec 16)
  /-- `CMPZ Rsrc` (R176) -/
  | cmpz (src : RegNum)
  /-- `PCMPBZ Rsrc` (R177) -/
  | pcmpbz (src : RegNum)
  /-- `ADD Rdest,Rsrc` (R178) -/
  | add (dest src : RegNum)
  /-- `ADD3 Rdest,Rsrc,#imm16` (R179) -/
  | add3 (dest src : RegNum) (imm16 : BitVec 16)
  /-- `ADDI Rdest,#imm8` (R180) -/
  | addi (dest : RegNum) (imm8 : BitVec 8)
  /-- `ADDV Rdest,Rsrc` (R181) -/
  | addv (dest src : RegNum)
  /-- `ADDV3 Rdest,Rsrc,#imm16` (R182) -/
  | addv3 (dest src : RegNum) (imm16 : BitVec 16)
  /-- `ADDX Rdest,Rsrc` (R183) -/
  | addx (dest src : RegNum)
  /-- `NEG Rdest,Rsrc` (R184) -/
  | neg (dest src : RegNum)
  /-- `SUB Rdest,Rsrc` (R185) -/
  | sub (dest src : RegNum)
  /-- `SUBV Rdest,Rsrc` (R186) -/
  | subv (dest src : RegNum)
  /-- `SUBX Rdest,Rsrc` (R187) -/
  | subx (dest src : RegNum)
  /-- `AND Rdest,Rsrc` (R189) -/
  | and (dest src : RegNum)
  /-- `AND3 Rdest,Rsrc,#imm16` (R190) -/
  | and3 (dest src : RegNum) (imm16 : BitVec 16)
  /-- `NOT Rdest,Rsrc` (R191) -/
  | not (dest src : RegNum)
  /-- `OR Rdest,Rsrc` (R192) -/
  | or (dest src : RegNum)
  /-- `OR3 Rdest,Rsrc,#imm16` (R193) -/
  | or3 (dest src : RegNum) (imm16 : BitVec 16)
  /-- `XOR Rdest,Rsrc` (R194) -/
  | xor (dest src : RegNum)
  /-- `XOR3 Rdest,Rsrc,#imm16` (R195) -/
  | xor3 (dest src : RegNum) (imm16 : BitVec 16)
  -- Multiplication, division, shifts (`43_muldiv_shift.md`)
  /-- `MUL Rdest,Rsrc` (R201) -/
  | mul (dest src : RegNum)
  /-- `DIV Rdest,Rsrc` (R202) -/
  | div (dest src : RegNum)
  /-- `DIVB Rdest,Rsrc` (R203) -/
  | divb (dest src : RegNum)
  /-- `DIVH Rdest,Rsrc` (R204) -/
  | divh (dest src : RegNum)
  /-- `DIVU Rdest,Rsrc` (R205) -/
  | divu (dest src : RegNum)
  /-- `DIVUB Rdest,Rsrc` (R206) -/
  | divub (dest src : RegNum)
  /-- `DIVUH Rdest,Rsrc` (R207) -/
  | divuh (dest src : RegNum)
  /-- `REM Rdest,Rsrc` (R208) -/
  | rem (dest src : RegNum)
  /-- `REMB Rdest,Rsrc` (R209) -/
  | remb (dest src : RegNum)
  /-- `REMH Rdest,Rsrc` (R210) -/
  | remh (dest src : RegNum)
  /-- `REMU Rdest,Rsrc` (R211) -/
  | remu (dest src : RegNum)
  /-- `REMUB Rdest,Rsrc` (R212) -/
  | remub (dest src : RegNum)
  /-- `REMUH Rdest,Rsrc` (R213) -/
  | remuh (dest src : RegNum)
  /-- `SLL Rdest,Rsrc` (R216) -/
  | sll (dest src : RegNum)
  /-- `SLL3 Rdest,Rsrc,#imm16` (R217) -/
  | sll3 (dest src : RegNum) (imm16 : BitVec 16)
  /-- `SLLI Rdest,#imm5` (R218) -/
  | slli (dest : RegNum) (imm5 : BitVec 5)
  /-- `SRA Rdest,Rsrc` (R219) -/
  | sra (dest src : RegNum)
  /-- `SRA3 Rdest,Rsrc,#imm16` (R220) -/
  | sra3 (dest src : RegNum) (imm16 : BitVec 16)
  /-- `SRAI Rdest,#imm5` (R221) -/
  | srai (dest : RegNum) (imm5 : BitVec 5)
  /-- `SRL Rdest,Rsrc` (R222) -/
  | srl (dest src : RegNum)
  /-- `SRL3 Rdest,Rsrc,#imm16` (R223) -/
  | srl3 (dest src : RegNum) (imm16 : BitVec 16)
  /-- `SRLI Rdest,#imm5` (R224) -/
  | srli (dest : RegNum) (imm5 : BitVec 5)
  -- Branches (`44_branch.md`)
  /-- `BC pcdisp8` (R232) -/
  | bc8 (pcdisp8 : BitVec 8)
  /-- `BC pcdisp24` (R232) -/
  | bc24 (pcdisp24 : BitVec 24)
  /-- `BCL pcdisp8` (R233) -/
  | bcl8 (pcdisp8 : BitVec 8)
  /-- `BCL pcdisp24` (R233) -/
  | bcl24 (pcdisp24 : BitVec 24)
  /-- `BL pcdisp8` (R234) -/
  | bl8 (pcdisp8 : BitVec 8)
  /-- `BL pcdisp24` (R234) -/
  | bl24 (pcdisp24 : BitVec 24)
  /-- `BNC pcdisp8` (R235) -/
  | bnc8 (pcdisp8 : BitVec 8)
  /-- `BNC pcdisp24` (R235) -/
  | bnc24 (pcdisp24 : BitVec 24)
  /-- `BNCL pcdisp8` (R236) -/
  | bncl8 (pcdisp8 : BitVec 8)
  /-- `BNCL pcdisp24` (R236) -/
  | bncl24 (pcdisp24 : BitVec 24)
  /-- `BRA pcdisp8` (R237) -/
  | bra8 (pcdisp8 : BitVec 8)
  /-- `BRA pcdisp24` (R237) -/
  | bra24 (pcdisp24 : BitVec 24)
  /-- `BEQ Rsrc1,Rsrc2,pcdisp16` (R238) -/
  | beq (src1 src2 : RegNum) (pcdisp16 : BitVec 16)
  /-- `BNE Rsrc1,Rsrc2,pcdisp16` (R239) -/
  | bne (src1 src2 : RegNum) (pcdisp16 : BitVec 16)
  /-- `BEQZ Rsrc,pcdisp16` (R240) -/
  | beqz (src : RegNum) (pcdisp16 : BitVec 16)
  /-- `BNEZ Rsrc,pcdisp16` (R241) -/
  | bnez (src : RegNum) (pcdisp16 : BitVec 16)
  /-- `BLTZ Rsrc,pcdisp16` (R242) -/
  | bltz (src : RegNum) (pcdisp16 : BitVec 16)
  /-- `BGEZ Rsrc,pcdisp16` (R243) -/
  | bgez (src : RegNum) (pcdisp16 : BitVec 16)
  /-- `BLEZ Rsrc,pcdisp16` (R244) -/
  | blez (src : RegNum) (pcdisp16 : BitVec 16)
  /-- `BGTZ Rsrc,pcdisp16` (R245) -/
  | bgtz (src : RegNum) (pcdisp16 : BitVec 16)
  /-- `JC Rsrc` (R246) -/
  | jc (src : RegNum)
  /-- `JL Rsrc` (R247) -/
  | jl (src : RegNum)
  /-- `JMP Rsrc` (R248) -/
  | jmp (src : RegNum)
  /-- `JNC Rsrc` (R249) -/
  | jnc (src : RegNum)
  /-- `NOP` (R250) -/
  | nop
  /-- `SC` (R251) -/
  | sc
  /-- `SNC` (R252) -/
  | snc
  -- Bit operation and EIT (`45_bit_eit.md`)
  /-- `BCLR #bitpos,@(disp16,Rsrc)` (R261) -/
  | bclr (bitpos : BitVec 3) (disp16 : BitVec 16) (src : RegNum)
  /-- `BSET #bitpos,@(disp16,Rsrc)` (R262) -/
  | bset (bitpos : BitVec 3) (disp16 : BitVec 16) (src : RegNum)
  /-- `BTST #bitpos,Rsrc` (R267) -/
  | btst (bitpos : BitVec 3) (src : RegNum)
  /-- `SETPSW #imm8` (R263) -/
  | setpsw (imm8 : BitVec 8)
  /-- `CLRPSW #imm8` (R264) -/
  | clrpsw (imm8 : BitVec 8)
  /-- `TRAP #imm4` (R265) -/
  | trap (imm4 : BitVec 4)
  /-- `RTE` (R266) -/
  | rte
  -- DSP (`46_dsp.md`)
  /-- `MULHI Rsrc1,Rsrc2,Adest` (R272) -/
  | mulhi (src1 src2 : RegNum) (acc : BitVec 1)
  /-- `MULLO Rsrc1,Rsrc2,Adest` (R273) -/
  | mullo (src1 src2 : RegNum) (acc : BitVec 1)
  /-- `MULWHI Rsrc1,Rsrc2` (R274) -/
  | mulwhi (src1 src2 : RegNum)
  /-- `MULWLO Rsrc1,Rsrc2` (R275) -/
  | mulwlo (src1 src2 : RegNum)
  /-- `MULWU1 Rsrc1,Rsrc2` (R276) -/
  | mulwu1 (src1 src2 : RegNum)
  /-- `MACHI Rsrc1,Rsrc2,Adest` (R277) -/
  | machi (src1 src2 : RegNum) (acc : BitVec 1)
  /-- `MACLO Rsrc1,Rsrc2,Adest` (R278) -/
  | maclo (src1 src2 : RegNum) (acc : BitVec 1)
  /-- `MACWHI Rsrc1,Rsrc2` (R279) -/
  | macwhi (src1 src2 : RegNum)
  /-- `MACWLO Rsrc1,Rsrc2` (R280) -/
  | macwlo (src1 src2 : RegNum)
  /-- `MACLH1 Rsrc1,Rsrc2` (R281) -/
  | maclh1 (src1 src2 : RegNum)
  /-- `MACWU1 Rsrc1,Rsrc2` (R282) -/
  | macwu1 (src1 src2 : RegNum)
  /-- `MSBLO Rsrc1,Rsrc2` (R283) -/
  | msblo (src1 src2 : RegNum)
  /-- `SADD` (R284) -/
  | sadd
  /-- `RAC Adest,Asrc,#imm1` (R285) -/
  | rac (accd accs : BitVec 1) (imm1 : Nat)
  /-- `RACH Adest,Asrc,#imm1` (R286) -/
  | rach (accd accs : BitVec 1) (imm1 : Nat)
  /-- `MVFACHI Rdest,Asrc` (R287) -/
  | mvfachi (dest : RegNum) (accs : BitVec 1)
  /-- `MVFACLO Rdest,Asrc` (R288) -/
  | mvfaclo (dest : RegNum) (accs : BitVec 1)
  /-- `MVFACMI Rdest,Asrc` (R289) -/
  | mvfacmi (dest : RegNum) (accs : BitVec 1)
  /-- `MVTACHI Rsrc,Adest` (R290) -/
  | mvtachi (src : RegNum) (accd : BitVec 1)
  /-- `MVTACLO Rsrc,Adest` (R291) -/
  | mvtaclo (src : RegNum) (accd : BitVec 1)
  /-- `SATB Rdest,Rsrc` (R292) -/
  | satb (dest src : RegNum)
  /-- `SATH Rdest,Rsrc` (R293) -/
  | sath (dest src : RegNum)
  -- Coprocessor (`47_coprocessor.md`): `inst` and `cpid` share 12 bits as `CP_FIELDS` says (R302)
  /-- `MVFCP Rdest,CPRsrc,inst,cpid` (R303) -/
  | mvfcp (dest : RegNum) (cpr : BitVec 4) (inst cpid : BitVec 12)
  /-- `MVTCP Rsrc,CPRdest,inst,cpid` (R304) -/
  | mvtcp (src : RegNum) (cpr : BitVec 4) (inst cpid : BitVec 12)
  /-- `OPECP CPRdest,CPRsrc,inst,cpid` (R305) -/
  | opecp (cprd cprs : BitVec 4) (inst cpid : BitVec 12)
deriving DecidableEq, Repr

end Sys2Proof
end

