-- ==== Sys2Proof/Machine/Arith.lean ====
section
/-! DEFINITION. Comparison, arithmetic and logical instructions (`42_compare_arith_logic.md`): no EIT (R170). -/

namespace Sys2Proof.Machine

/-- `CMP Rsrc1,Rsrc2`: C ← signed less (R171). -/
def cmpAction (src1 src2 : RegNum) (s : State) : Action :=
  .writes (setCond (lessSigned (readReg s src1) (readReg s src2)))

/-- CMP executed alone (R171). -/
def execCmp (src1 src2 : RegNum) (s : State) : Result :=
  finish 2 (cmpAction src1 src2 s) s

/-- `CMPEQ Rsrc1,Rsrc2`: C ← equal (R172). -/
def cmpeqAction (src1 src2 : RegNum) (s : State) : Action :=
  .writes (setCond (readReg s src1 == readReg s src2))

/-- CMPEQ executed alone (R172). -/
def execCmpeq (src1 src2 : RegNum) (s : State) : Result :=
  finish 2 (cmpeqAction src1 src2 s) s

/-- `CMPI Rsrc,#imm16`: C ← signed less than the sign-extended immediate (R173). -/
def cmpiAction (src : RegNum) (imm16 : BitVec 16) (s : State) : Action :=
  .writes (setCond (lessSigned (readReg s src) (sext imm16)))

/-- CMPI executed alone (R173). -/
def execCmpi (src : RegNum) (imm16 : BitVec 16) (s : State) : Result :=
  finish 4 (cmpiAction src imm16 s) s

/-- `CMPU Rsrc1,Rsrc2`: C ← unsigned less (R174). -/
def cmpuAction (src1 src2 : RegNum) (s : State) : Action :=
  .writes (setCond (lessUnsigned (readReg s src1) (readReg s src2)))

/-- CMPU executed alone (R174). -/
def execCmpu (src1 src2 : RegNum) (s : State) : Result :=
  finish 2 (cmpuAction src1 src2 s) s

/-- `CMPUI Rsrc,#imm16`: C ← unsigned less than the sign-extended immediate (R175). -/
def cmpuiAction (src : RegNum) (imm16 : BitVec 16) (s : State) : Action :=
  .writes (setCond (lessUnsigned (readReg s src) (sext imm16)))

/-- CMPUI executed alone (R175). -/
def execCmpui (src : RegNum) (imm16 : BitVec 16) (s : State) : Result :=
  finish 4 (cmpuiAction src imm16 s) s

/-- `CMPZ Rsrc`: C ← equal to zero (R176). -/
def cmpzAction (src : RegNum) (s : State) : Action :=
  .writes (setCond (readReg s src == 0))

/-- CMPZ executed alone (R176). -/
def execCmpz (src : RegNum) (s : State) : Result :=
  finish 2 (cmpzAction src s) s

/-- `PCMPBZ Rsrc`: C ← one of the four bytes is zero (R177). -/
def pcmpbzAction (src : RegNum) (s : State) : Action :=
  .writes (setCond (anyByteZero (readReg s src)))

/-- PCMPBZ executed alone (R177). -/
def execPcmpbz (src : RegNum) (s : State) : Result :=
  finish 2 (pcmpbzAction src s) s

/-- `ADD Rdest,Rsrc`: sum modulo 2^32, C unchanged (R178). -/
def addAction (dest src : RegNum) (s : State) : Action :=
  .writes (setReg s dest (readReg s dest + readReg s src))

/-- ADD executed alone (R178). -/
def execAdd (dest src : RegNum) (s : State) : Result :=
  finish 2 (addAction dest src s) s

/-- `ADD3 Rdest,Rsrc,#imm16`: sum with the sign-extended immediate (R179). -/
def add3Action (dest src : RegNum) (imm16 : BitVec 16) (s : State) : Action :=
  .writes (setReg s dest (readReg s src + sext imm16))

/-- ADD3 executed alone (R179). -/
def execAdd3 (dest src : RegNum) (imm16 : BitVec 16) (s : State) : Result :=
  finish 4 (add3Action dest src imm16 s) s

/-- `ADDI Rdest,#imm8`: sum with the sign-extended immediate (R180). -/
def addiAction (dest : RegNum) (imm8 : BitVec 8) (s : State) : Action :=
  .writes (setReg s dest (readReg s dest + sext imm8))

/-- ADDI executed alone (R180). -/
def execAddi (dest : RegNum) (imm8 : BitVec 8) (s : State) : Result :=
  finish 2 (addiAction dest imm8 s) s

/-- A register write and a C write together. -/
def setRegCond (s : State) (r : RegNum) (v : Word) (c : Bool) : Effect := { regs := [(slotOf s r, v)], cond := some c }

/-- Sum into `dest`, C ← signed overflow (R170). -/
def addOverflowEffect (s : State) (dest : RegNum) (a b : Word) : Effect :=
  setRegCond s dest (a + b) (addOverflow a b (a + b))

/-- `ADDV Rdest,Rsrc`: sum, C ← signed overflow (R181). -/
def addvAction (dest src : RegNum) (s : State) : Action :=
  .writes (addOverflowEffect s dest (readReg s dest) (readReg s src))

/-- ADDV executed alone (R181). -/
def execAddv (dest src : RegNum) (s : State) : Result :=
  finish 2 (addvAction dest src s) s

/-- `ADDV3 Rdest,Rsrc,#imm16`: sum with the sign-extended immediate, C ← signed overflow (R182). -/
def addv3Action (dest src : RegNum) (imm16 : BitVec 16) (s : State) : Action :=
  .writes (addOverflowEffect s dest (readReg s src) (sext imm16))

/-- ADDV3 executed alone (R182). -/
def execAddv3 (dest src : RegNum) (imm16 : BitVec 16) (s : State) : Result :=
  finish 4 (addv3Action dest src imm16 s) s

/-- `ADDX Rdest,Rsrc`: sum with carry in, C ← carry out (R183). -/
def addxAction (dest src : RegNum) (s : State) : Action :=
  .writes (setRegCond s dest (readReg s dest + readReg s src + boolWord (psw_c s.psw))
    (carryOut (readReg s dest) (readReg s src) (psw_c s.psw)))

/-- ADDX executed alone (R183). -/
def execAddx (dest src : RegNum) (s : State) : Result :=
  finish 2 (addxAction dest src s) s

/-- `NEG Rdest,Rsrc`: negated source (R184). -/
def negAction (dest src : RegNum) (s : State) : Action :=
  .writes (setReg s dest (0 - readReg s src))

/-- NEG executed alone (R184). -/
def execNeg (dest src : RegNum) (s : State) : Result :=
  finish 2 (negAction dest src s) s

/-- `SUB Rdest,Rsrc`: difference modulo 2^32, C unchanged (R185). -/
def subAction (dest src : RegNum) (s : State) : Action :=
  .writes (setReg s dest (readReg s dest - readReg s src))

/-- SUB executed alone (R185). -/
def execSub (dest src : RegNum) (s : State) : Result :=
  finish 2 (subAction dest src s) s

/-- `SUBV Rdest,Rsrc`: difference, C ← signed overflow (R186). -/
def subvAction (dest src : RegNum) (s : State) : Action :=
  .writes (setRegCond s dest (readReg s dest - readReg s src)
    (subOverflow (readReg s dest) (readReg s src) (readReg s dest - readReg s src)))

/-- SUBV executed alone (R186). -/
def execSubv (dest src : RegNum) (s : State) : Result :=
  finish 2 (subvAction dest src s) s

/-- `SUBX Rdest,Rsrc`: difference with borrow in, C ← borrow (R187). -/
def subxAction (dest src : RegNum) (s : State) : Action :=
  .writes (setRegCond s dest (readReg s dest - readReg s src - boolWord (psw_c s.psw))
    (borrowOut (readReg s dest) (readReg s src) (psw_c s.psw)))

/-- SUBX executed alone (R187). -/
def execSubx (dest src : RegNum) (s : State) : Result :=
  finish 2 (subxAction dest src s) s

/-- `AND Rdest,Rsrc`: bitwise and (R189). -/
def andAction (dest src : RegNum) (s : State) : Action :=
  .writes (setReg s dest (readReg s dest &&& readReg s src))

/-- AND executed alone (R189). -/
def execAnd (dest src : RegNum) (s : State) : Result :=
  finish 2 (andAction dest src s) s

/-- `AND3 Rdest,Rsrc,#imm16`: bitwise and with the zero-extended immediate (R190). -/
def and3Action (dest src : RegNum) (imm16 : BitVec 16) (s : State) : Action :=
  .writes (setReg s dest (readReg s src &&& zext imm16))

/-- AND3 executed alone (R190). -/
def execAnd3 (dest src : RegNum) (imm16 : BitVec 16) (s : State) : Result :=
  finish 4 (and3Action dest src imm16 s) s

/-- `NOT Rdest,Rsrc`: bitwise complement of the source (R191). -/
def notAction (dest src : RegNum) (s : State) : Action :=
  .writes (setReg s dest (~~~readReg s src))

/-- NOT executed alone (R191). -/
def execNot (dest src : RegNum) (s : State) : Result :=
  finish 2 (notAction dest src s) s

/-- `OR Rdest,Rsrc`: bitwise or (R192). -/
def orAction (dest src : RegNum) (s : State) : Action :=
  .writes (setReg s dest (readReg s dest ||| readReg s src))

/-- OR executed alone (R192). -/
def execOr (dest src : RegNum) (s : State) : Result :=
  finish 2 (orAction dest src s) s

/-- `OR3 Rdest,Rsrc,#imm16`: bitwise or with the zero-extended immediate (R193). -/
def or3Action (dest src : RegNum) (imm16 : BitVec 16) (s : State) : Action :=
  .writes (setReg s dest (readReg s src ||| zext imm16))

/-- OR3 executed alone (R193). -/
def execOr3 (dest src : RegNum) (imm16 : BitVec 16) (s : State) : Result :=
  finish 4 (or3Action dest src imm16 s) s

/-- `XOR Rdest,Rsrc`: bitwise exclusive or (R194). -/
def xorAction (dest src : RegNum) (s : State) : Action :=
  .writes (setReg s dest (readReg s dest ^^^ readReg s src))

/-- XOR executed alone (R194). -/
def execXor (dest src : RegNum) (s : State) : Result :=
  finish 2 (xorAction dest src s) s

/-- `XOR3 Rdest,Rsrc,#imm16`: bitwise exclusive or with the zero-extended immediate (R195). -/
def xor3Action (dest src : RegNum) (imm16 : BitVec 16) (s : State) : Action :=
  .writes (setReg s dest (readReg s src ^^^ zext imm16))

/-- XOR3 executed alone (R195). -/
def execXor3 (dest src : RegNum) (imm16 : BitVec 16) (s : State) : Result :=
  finish 4 (xor3Action dest src imm16 s) s

end Sys2Proof.Machine
end

