-- ==== Sys2Proof/Machine/BitEit.lean ====
section
/-! DEFINITION. Bit operation and EIT-related instructions (`45_bit_eit.md`). -/

namespace Sys2Proof.Machine

/-- BSET and BCLR: one byte read, one bit changed, the byte written back; a device sees the read and the write (R84, R85, R261,
R262). -/
def modifyByte (ea : Word) (f : Byte → Byte) (s : State) : Action :=
  checked .load 1 ea s
    (checked .store 1 ea s
      (.writes (withWrite ea [f ((dataRead ea 1 s).extractLsb' 0 8)] s (withRead ea 1 s {}))))

/-- The mask of one bit of a byte, numbered from the most significant one (R261). -/
def bitMask (bitpos : BitVec 3) : Byte := 1#8 <<< bitIndex bitpos

/-- `BCLR #bitpos,@(disp16,Rsrc)`: clear one bit of a byte of memory (R261). -/
def bclrAction (bitpos : BitVec 3) (disp16 : BitVec 16) (src : RegNum) (s : State) : Action :=
  modifyByte (eaDisp s disp16 src) (fun b => b &&& ~~~(bitMask bitpos)) s

/-- BCLR executed alone (R261). -/
def execBclr (bitpos : BitVec 3) (disp16 : BitVec 16) (src : RegNum) (s : State) : Result :=
  finish 4 (bclrAction bitpos disp16 src s) s

/-- `BSET #bitpos,@(disp16,Rsrc)`: set one bit of a byte of memory; C unchanged (log 37) (R262). -/
def bsetAction (bitpos : BitVec 3) (disp16 : BitVec 16) (src : RegNum) (s : State) : Action :=
  modifyByte (eaDisp s disp16 src) (fun b => b ||| bitMask bitpos) s

/-- BSET executed alone (R262). -/
def execBset (bitpos : BitVec 3) (disp16 : BitVec 16) (src : RegNum) (s : State) : Result :=
  finish 4 (bsetAction bitpos disp16 src s) s

/-- `BTST #bitpos,Rsrc`: C ← one bit of the low byte (R267). -/
def btstAction (bitpos : BitVec 3) (src : RegNum) (s : State) : Action :=
  .writes (setCond ((readReg s src).getLsbD (bitIndex bitpos)))

/-- BTST executed alone (R267). -/
def execBtst (bitpos : BitVec 3) (src : RegNum) (s : State) : Result :=
  finish 2 (btstAction bitpos src s) s

/-- `SETPSW #imm8`: set PSW bits, privileged (R263). -/
def setpswAction (imm8 : BitVec 8) (s : State) : Action :=
  privileged s (checkedPm s (setPsw s.psw imm8)
    (.writes { psw := some (setPsw s.psw imm8), cond := if imm8.getLsbD 0 then some true else none }))

/-- SETPSW executed alone (R263). -/
def execSetpsw (imm8 : BitVec 8) (s : State) : Result :=
  finish 2 (setpswAction imm8 s) s

/-- `CLRPSW #imm8`: clear PSW bits, privileged (R264). -/
def clrpswAction (imm8 : BitVec 8) (s : State) : Action :=
  privileged s
    (.writes { psw := some (clearPsw s.psw imm8), cond := if imm8.getLsbD 0 then some false else none })

/-- CLRPSW executed alone (R264). -/
def execClrpsw (imm8 : BitVec 8) (s : State) : Result :=
  finish 2 (clrpswAction imm8 s) s

/-- `TRAP #imm4`: EIT entry with BPC ← the next unit (R265). -/
def trapAction (pos : Position) (imm4 : BitVec 4) (s : State) : Action :=
  .writes (entryEffect (.trap imm4) (nextPc pos s.pc) s)

/-- TRAP executed alone (R265). -/
def execTrap (imm4 : BitVec 4) (s : State) : Result :=
  finish 2 (trapAction .alone imm4 s) s

/-- `RTE`: return from EIT, privileged (R266). -/
def rteAction (s : State) : Action :=
  privileged s (.writes (returnEffect s))

/-- RTE executed alone (R266). -/
def execRte (s : State) : Result :=
  finish 2 (rteAction s) s

end Sys2Proof.Machine
end

