-- ==== Sys2Proof/Machine/Branch.lean ====
section
/-! DEFINITION. Branch instructions, NOP, SC and SNC (`44_branch.md`): C unchanged, no EIT (R231). -/

namespace Sys2Proof.Machine

/-- Nothing is written: a branch that is not taken, NOP. -/
def noEffect : Effect := {}

/-- Branch when `cond` holds (R231). -/
def branchIf (cond : Bool) (target : Word) : Action :=
  .writes (if cond then jumpTo target else noEffect)

/-- Branch and link when `cond` holds: R14 ← the word after the branch (R230). -/
def branchLinkIf (cond : Bool) (target : Word) (s : State) : Action :=
  .writes (if cond then { regs := [(slotOf s linkReg, linkValue s.pc)], pc := some target } else noEffect)

/-- `BC pcdisp8`: branch when C = 1 (R232). -/
def bc8Action (pcdisp8 : BitVec 8) (s : State) : Action :=
  branchIf (psw_c s.psw) (branchTarget s.pc pcdisp8)

/-- BC executed alone (R232). -/
def execBc8 (pcdisp8 : BitVec 8) (s : State) : Result :=
  finish 2 (bc8Action pcdisp8 s) s

/-- `BC pcdisp24`: branch when C = 1 (R232). -/
def bc24Action (pcdisp24 : BitVec 24) (s : State) : Action :=
  branchIf (psw_c s.psw) (branchTarget s.pc pcdisp24)

/-- BC executed alone (R232). -/
def execBc24 (pcdisp24 : BitVec 24) (s : State) : Result :=
  finish 4 (bc24Action pcdisp24 s) s

/-- `BCL pcdisp8`: branch and link when C = 1 (R233). -/
def bcl8Action (pcdisp8 : BitVec 8) (s : State) : Action :=
  branchLinkIf (psw_c s.psw) (branchTarget s.pc pcdisp8) s

/-- BCL executed alone (R233). -/
def execBcl8 (pcdisp8 : BitVec 8) (s : State) : Result :=
  finish 2 (bcl8Action pcdisp8 s) s

/-- `BCL pcdisp24`: branch and link when C = 1 (R233). -/
def bcl24Action (pcdisp24 : BitVec 24) (s : State) : Action :=
  branchLinkIf (psw_c s.psw) (branchTarget s.pc pcdisp24) s

/-- BCL executed alone (R233). -/
def execBcl24 (pcdisp24 : BitVec 24) (s : State) : Result :=
  finish 4 (bcl24Action pcdisp24 s) s

/-- `BL pcdisp8`: branch and link (R234). -/
def bl8Action (pcdisp8 : BitVec 8) (s : State) : Action :=
  branchLinkIf true (branchTarget s.pc pcdisp8) s

/-- BL executed alone (R234). -/
def execBl8 (pcdisp8 : BitVec 8) (s : State) : Result :=
  finish 2 (bl8Action pcdisp8 s) s

/-- `BL pcdisp24`: branch and link (R234). -/
def bl24Action (pcdisp24 : BitVec 24) (s : State) : Action :=
  branchLinkIf true (branchTarget s.pc pcdisp24) s

/-- BL executed alone (R234). -/
def execBl24 (pcdisp24 : BitVec 24) (s : State) : Result :=
  finish 4 (bl24Action pcdisp24 s) s

/-- `BNC pcdisp8`: branch when C = 0 (R235). -/
def bnc8Action (pcdisp8 : BitVec 8) (s : State) : Action :=
  branchIf (!psw_c s.psw) (branchTarget s.pc pcdisp8)

/-- BNC executed alone (R235). -/
def execBnc8 (pcdisp8 : BitVec 8) (s : State) : Result :=
  finish 2 (bnc8Action pcdisp8 s) s

/-- `BNC pcdisp24`: branch when C = 0 (R235). -/
def bnc24Action (pcdisp24 : BitVec 24) (s : State) : Action :=
  branchIf (!psw_c s.psw) (branchTarget s.pc pcdisp24)

/-- BNC executed alone (R235). -/
def execBnc24 (pcdisp24 : BitVec 24) (s : State) : Result :=
  finish 4 (bnc24Action pcdisp24 s) s

/-- `BNCL pcdisp8`: branch and link when C = 0 (R236). -/
def bncl8Action (pcdisp8 : BitVec 8) (s : State) : Action :=
  branchLinkIf (!psw_c s.psw) (branchTarget s.pc pcdisp8) s

/-- BNCL executed alone (R236). -/
def execBncl8 (pcdisp8 : BitVec 8) (s : State) : Result :=
  finish 2 (bncl8Action pcdisp8 s) s

/-- `BNCL pcdisp24`: branch and link when C = 0 (R236). -/
def bncl24Action (pcdisp24 : BitVec 24) (s : State) : Action :=
  branchLinkIf (!psw_c s.psw) (branchTarget s.pc pcdisp24) s

/-- BNCL executed alone (R236). -/
def execBncl24 (pcdisp24 : BitVec 24) (s : State) : Result :=
  finish 4 (bncl24Action pcdisp24 s) s

/-- `BRA pcdisp8`: branch (R237). -/
def bra8Action (pcdisp8 : BitVec 8) (s : State) : Action :=
  branchIf true (branchTarget s.pc pcdisp8)

/-- BRA executed alone (R237). -/
def execBra8 (pcdisp8 : BitVec 8) (s : State) : Result :=
  finish 2 (bra8Action pcdisp8 s) s

/-- `BRA pcdisp24`: branch (R237). -/
def bra24Action (pcdisp24 : BitVec 24) (s : State) : Action :=
  branchIf true (branchTarget s.pc pcdisp24)

/-- BRA executed alone (R237). -/
def execBra24 (pcdisp24 : BitVec 24) (s : State) : Result :=
  finish 4 (bra24Action pcdisp24 s) s

/-- `BEQ Rsrc1,Rsrc2,pcdisp16`: branch when equal (R238). -/
def beqAction (src1 src2 : RegNum) (pcdisp16 : BitVec 16) (s : State) : Action :=
  branchIf (readReg s src1 == readReg s src2) (branchTarget s.pc pcdisp16)

/-- BEQ executed alone (R238). -/
def execBeq (src1 src2 : RegNum) (pcdisp16 : BitVec 16) (s : State) : Result :=
  finish 4 (beqAction src1 src2 pcdisp16 s) s

/-- `BNE Rsrc1,Rsrc2,pcdisp16`: branch when not equal (R239). -/
def bneAction (src1 src2 : RegNum) (pcdisp16 : BitVec 16) (s : State) : Action :=
  branchIf (readReg s src1 != readReg s src2) (branchTarget s.pc pcdisp16)

/-- BNE executed alone (R239). -/
def execBne (src1 src2 : RegNum) (pcdisp16 : BitVec 16) (s : State) : Result :=
  finish 4 (bneAction src1 src2 pcdisp16 s) s

/-- `BEQZ Rsrc,pcdisp16`: branch when zero (R240). -/
def beqzAction (src : RegNum) (pcdisp16 : BitVec 16) (s : State) : Action :=
  branchIf (readReg s src == 0) (branchTarget s.pc pcdisp16)

/-- BEQZ executed alone (R240). -/
def execBeqz (src : RegNum) (pcdisp16 : BitVec 16) (s : State) : Result :=
  finish 4 (beqzAction src pcdisp16 s) s

/-- `BNEZ Rsrc,pcdisp16`: branch when not zero (R241). -/
def bnezAction (src : RegNum) (pcdisp16 : BitVec 16) (s : State) : Action :=
  branchIf (readReg s src != 0) (branchTarget s.pc pcdisp16)

/-- BNEZ executed alone (R241). -/
def execBnez (src : RegNum) (pcdisp16 : BitVec 16) (s : State) : Result :=
  finish 4 (bnezAction src pcdisp16 s) s

/-- `BLTZ Rsrc,pcdisp16`: branch when negative (R242). -/
def bltzAction (src : RegNum) (pcdisp16 : BitVec 16) (s : State) : Action :=
  branchIf ((readReg s src).getLsbD 31) (branchTarget s.pc pcdisp16)

/-- BLTZ executed alone (R242). -/
def execBltz (src : RegNum) (pcdisp16 : BitVec 16) (s : State) : Result :=
  finish 4 (bltzAction src pcdisp16 s) s

/-- `BGEZ Rsrc,pcdisp16`: branch when not negative (R243). -/
def bgezAction (src : RegNum) (pcdisp16 : BitVec 16) (s : State) : Action :=
  branchIf (!(readReg s src).getLsbD 31) (branchTarget s.pc pcdisp16)

/-- BGEZ executed alone (R243). -/
def execBgez (src : RegNum) (pcdisp16 : BitVec 16) (s : State) : Result :=
  finish 4 (bgezAction src pcdisp16 s) s

/-- `BLEZ Rsrc,pcdisp16`: branch when negative or zero (R244). -/
def blezAction (src : RegNum) (pcdisp16 : BitVec 16) (s : State) : Action :=
  branchIf ((readReg s src).getLsbD 31 || readReg s src == 0) (branchTarget s.pc pcdisp16)

/-- BLEZ executed alone (R244). -/
def execBlez (src : RegNum) (pcdisp16 : BitVec 16) (s : State) : Result :=
  finish 4 (blezAction src pcdisp16 s) s

/-- `BGTZ Rsrc,pcdisp16`: branch when positive (R245). -/
def bgtzAction (src : RegNum) (pcdisp16 : BitVec 16) (s : State) : Action :=
  branchIf (!(readReg s src).getLsbD 31 && readReg s src != 0) (branchTarget s.pc pcdisp16)

/-- BGTZ executed alone (R245). -/
def execBgtz (src : RegNum) (pcdisp16 : BitVec 16) (s : State) : Result :=
  finish 4 (bgtzAction src pcdisp16 s) s

/-- `JC Rsrc`: jump when C = 1 (R246). -/
def jcAction (src : RegNum) (s : State) : Action :=
  branchIf (psw_c s.psw) (jumpTarget (readReg s src))

/-- JC executed alone (R246). -/
def execJc (src : RegNum) (s : State) : Result :=
  finish 2 (jcAction src s) s

/-- `JL Rsrc`: jump and link; the target is the register before R14 is written (log 29) (R247). -/
def jlAction (src : RegNum) (s : State) : Action :=
  branchLinkIf true (jumpTarget (readReg s src)) s

/-- JL executed alone (R247). -/
def execJl (src : RegNum) (s : State) : Result :=
  finish 2 (jlAction src s) s

/-- `JMP Rsrc`: jump (R248). -/
def jmpAction (src : RegNum) (s : State) : Action :=
  branchIf true (jumpTarget (readReg s src))

/-- JMP executed alone (R248). -/
def execJmp (src : RegNum) (s : State) : Result :=
  finish 2 (jmpAction src s) s

/-- `JNC Rsrc`: jump when C = 0 (R249). -/
def jncAction (src : RegNum) (s : State) : Action :=
  branchIf (!psw_c s.psw) (jumpTarget (readReg s src))

/-- JNC executed alone (R249). -/
def execJnc (src : RegNum) (s : State) : Result :=
  finish 2 (jncAction src s) s

/-- `NOP`: no operation (R250). -/
def nopAction (_s : State) : Action :=
  .writes noEffect

/-- NOP executed alone (R250). -/
def execNop (s : State) : Result :=
  finish 2 (nopAction s) s

/-- SC and SNC (R251, R252): in a pair the partner is cancelled when `cond` holds. Alone they are a NOP in the lower halfword,
and in the upper halfword the two statements of the source disagree (D18). -/
def skipAction (pos : Position) (cond : Bool) (s : State) : Action :=
  match pos with
  | .pair => .writes { cancels := cond }
  | .alone => if s.pc.getLsbD 1 then .writes noEffect else .stops (.refuse .skipWithoutPair)

/-- `SC`: cancel the parallel partner when C = 1 (R251). -/
def scAction (pos : Position) (s : State) : Action :=
  skipAction pos (psw_c s.psw) s

/-- SC executed alone (R251). -/
def execSc (s : State) : Result :=
  finish 2 (scAction .alone s) s

/-- `SNC`: cancel the parallel partner when C = 0 (R252). -/
def sncAction (pos : Position) (s : State) : Action :=
  skipAction pos (!psw_c s.psw) s

/-- SNC executed alone (R252). -/
def execSnc (s : State) : Result :=
  finish 2 (sncAction .alone s) s

end Sys2Proof.Machine
end

