-- ==== Sys2Proof/Machine/Coprocessor.lean ====
section
/-! DEFINITION. Coprocessor support instructions (`47_coprocessor.md`). The coprocessor is an external agent: the core
records its requests and reads the environment's answers (R300, R301, log 19). -/

namespace Sys2Proof.Machine

/-- `MVFCP Rdest,CPRsrc,inst,cpid`: register of a coprocessor to register: `CopRead` (R301, log 19) (R303). -/
def mvfcpAction (dest : RegNum) (cpr : BitVec 4) (inst cpid : BitVec 12) (s : State) : Action :=
  withCoprocessor cpid s
    (.writes { regs := [(slotOf s dest, copAnswer s)], cop := some (.read cpid cpr inst), copReads := 1,
               draws := s.copAnswers.isEmpty })

/-- MVFCP executed alone (R303). -/
def execMvfcp (dest : RegNum) (cpr : BitVec 4) (inst cpid : BitVec 12) (s : State) : Result :=
  finish 4 (mvfcpAction dest cpr inst cpid s) s

/-- `MVTCP Rsrc,CPRdest,inst,cpid`: register to a register of a coprocessor (R304). -/
def mvtcpAction (src : RegNum) (cpr : BitVec 4) (inst cpid : BitVec 12) (s : State) : Action :=
  withCoprocessor cpid s (.writes { cop := some (.write cpid cpr inst (readReg s src)) })

/-- MVTCP executed alone (R304). -/
def execMvtcp (src : RegNum) (cpr : BitVec 4) (inst cpid : BitVec 12) (s : State) : Result :=
  finish 4 (mvtcpAction src cpr inst cpid s) s

/-- `OPECP CPRdest,CPRsrc,inst,cpid`: operate a coprocessor; no core register changes (R305). -/
def opecpAction (cprd cprs : BitVec 4) (inst cpid : BitVec 12) (s : State) : Action :=
  withCoprocessor cpid s (.writes { cop := some (.operate cpid cprd cprs inst) })

/-- OPECP executed alone (R305). -/
def execOpecp (cprd cprs : BitVec 4) (inst cpid : BitVec 12) (s : State) : Result :=
  finish 4 (opecpAction cprd cprs inst cpid s) s

end Sys2Proof.Machine
end

