-- ==== Sys2Proof/Machine/Dsp.lean ====
section
/-! DEFINITION. DSP function instructions (`46_dsp.md`): C unchanged, no EIT (R271). Sums wrap modulo 2^56 (R51, R270). -/

namespace Sys2Proof.Machine

/-- `MULHI Rsrc1,Rsrc2,Adest`: multiply high halves, product at bit 16 (R272). -/
def mulhiAction (src1 src2 : RegNum) (acc : BitVec 1) (s : State) : Action :=
  .writes (setAcc acc ((hi16 (readReg s src1) * hi16 (readReg s src2)) <<< 16))

/-- MULHI executed alone (R272). -/
def execMulhi (src1 src2 : RegNum) (acc : BitVec 1) (s : State) : Result :=
  finish 2 (mulhiAction src1 src2 acc s) s

/-- `MULLO Rsrc1,Rsrc2,Adest`: multiply low halves, product at bit 16 (R273). -/
def mulloAction (src1 src2 : RegNum) (acc : BitVec 1) (s : State) : Action :=
  .writes (setAcc acc ((lo16 (readReg s src1) * lo16 (readReg s src2)) <<< 16))

/-- MULLO executed alone (R273). -/
def execMullo (src1 src2 : RegNum) (acc : BitVec 1) (s : State) : Result :=
  finish 2 (mulloAction src1 src2 acc s) s

/-- `MULWHI Rsrc1,Rsrc2`: multiply word by high half into A0 (R274). -/
def mulwhiAction (src1 src2 : RegNum) (s : State) : Action :=
  .writes (setAcc 0 (s32 (readReg s src1) * hi16 (readReg s src2)))

/-- MULWHI executed alone (R274). -/
def execMulwhi (src1 src2 : RegNum) (s : State) : Result :=
  finish 2 (mulwhiAction src1 src2 s) s

/-- `MULWLO Rsrc1,Rsrc2`: multiply word by low half into A0 (R275). -/
def mulwloAction (src1 src2 : RegNum) (s : State) : Action :=
  .writes (setAcc 0 (s32 (readReg s src1) * lo16 (readReg s src2)))

/-- MULWLO executed alone (R275). -/
def execMulwlo (src1 src2 : RegNum) (s : State) : Result :=
  finish 2 (mulwloAction src1 src2 s) s

/-- `MULWU1 Rsrc1,Rsrc2`: multiply word by unsigned low half into A1 (R276). -/
def mulwu1Action (src1 src2 : RegNum) (s : State) : Action :=
  .writes (setAcc 1 (s32 (readReg s src1) * ulo16 (readReg s src2)))

/-- MULWU1 executed alone (R276). -/
def execMulwu1 (src1 src2 : RegNum) (s : State) : Result :=
  finish 2 (mulwu1Action src1 src2 s) s

/-- `MACHI Rsrc1,Rsrc2,Adest`: multiply and accumulate high halves (R277). -/
def machiAction (src1 src2 : RegNum) (acc : BitVec 1) (s : State) : Action :=
  .writes (setAcc acc (accRead s acc + ((hi16 (readReg s src1) * hi16 (readReg s src2)) <<< 16)))

/-- MACHI executed alone (R277). -/
def execMachi (src1 src2 : RegNum) (acc : BitVec 1) (s : State) : Result :=
  finish 2 (machiAction src1 src2 acc s) s

/-- `MACLO Rsrc1,Rsrc2,Adest`: multiply and accumulate low halves (R278). -/
def macloAction (src1 src2 : RegNum) (acc : BitVec 1) (s : State) : Action :=
  .writes (setAcc acc (accRead s acc + ((lo16 (readReg s src1) * lo16 (readReg s src2)) <<< 16)))

/-- MACLO executed alone (R278). -/
def execMaclo (src1 src2 : RegNum) (acc : BitVec 1) (s : State) : Result :=
  finish 2 (macloAction src1 src2 acc s) s

/-- `MACWHI Rsrc1,Rsrc2`: multiply and accumulate word by high half, A0 (R279). -/
def macwhiAction (src1 src2 : RegNum) (s : State) : Action :=
  .writes (setAcc 0 (accRead s 0 + (s32 (readReg s src1) * hi16 (readReg s src2))))

/-- MACWHI executed alone (R279). -/
def execMacwhi (src1 src2 : RegNum) (s : State) : Result :=
  finish 2 (macwhiAction src1 src2 s) s

/-- `MACWLO Rsrc1,Rsrc2`: multiply and accumulate word by low half, A0 (R280). -/
def macwloAction (src1 src2 : RegNum) (s : State) : Action :=
  .writes (setAcc 0 (accRead s 0 + (s32 (readReg s src1) * lo16 (readReg s src2))))

/-- MACWLO executed alone (R280). -/
def execMacwlo (src1 src2 : RegNum) (s : State) : Result :=
  finish 2 (macwloAction src1 src2 s) s

/-- `MACLH1 Rsrc1,Rsrc2`: multiply and accumulate low half by high half, A1 (R281). -/
def maclh1Action (src1 src2 : RegNum) (s : State) : Action :=
  .writes (setAcc 1 (accRead s 1 + ((lo16 (readReg s src1) * hi16 (readReg s src2)) <<< 16)))

/-- MACLH1 executed alone (R281). -/
def execMaclh1 (src1 src2 : RegNum) (s : State) : Result :=
  finish 2 (maclh1Action src1 src2 s) s

/-- `MACWU1 Rsrc1,Rsrc2`: multiply and accumulate word by unsigned low half, A1 (R282). -/
def macwu1Action (src1 src2 : RegNum) (s : State) : Action :=
  .writes (setAcc 1 (accRead s 1 + (s32 (readReg s src1) * ulo16 (readReg s src2))))

/-- MACWU1 executed alone (R282). -/
def execMacwu1 (src1 src2 : RegNum) (s : State) : Result :=
  finish 2 (macwu1Action src1 src2 s) s

/-- `MSBLO Rsrc1,Rsrc2`: multiply and subtract low halves, A0 (R283). -/
def msbloAction (src1 src2 : RegNum) (s : State) : Action :=
  .writes (setAcc 0 (accRead s 0 - ((lo16 (readReg s src1) * lo16 (readReg s src2)) <<< 16)))

/-- MSBLO executed alone (R283). -/
def execMsblo (src1 src2 : RegNum) (s : State) : Result :=
  finish 2 (msbloAction src1 src2 s) s

/-- `SADD`: A0 ← A0 + (A1 shifted right arithmetically by 16) (R284). -/
def saddAction (s : State) : Action :=
  .writes (setAcc 0 (accRead s 0 + (accRead s 1).sshiftRight 16))

/-- SADD executed alone (R284). -/
def execSadd (s : State) : Result :=
  finish 2 (saddAction s) s

/-- Round and saturate (R285, R286): shift left by `imm1`, add half a unit, clamp to `max` and -2^47, clear the low bits. -/
def roundAcc (v : AccView) (imm1 : Nat) (half max keep : AccView) : AccView :=
  if max.slt ((v <<< imm1) + half) then max
  else if ((v <<< imm1) + half).slt 0xFFFF800000000000 then 0xFFFF800000000000
  else ((v <<< imm1) + half) &&& keep

/-- `RAC Adest,Asrc,#imm1`: round to word (R285). -/
def racAction (accd accs : BitVec 1) (imm1 : Nat) (s : State) : Action :=
  .writes (setAcc accd (roundAcc (accRead s accs) imm1 0x8000 0x00007FFFFFFF0000 0xFFFFFFFFFFFF0000))

/-- RAC executed alone (R285). -/
def execRac (accd accs : BitVec 1) (imm1 : Nat) (s : State) : Result :=
  finish 2 (racAction accd accs imm1 s) s

/-- `RACH Adest,Asrc,#imm1`: round to halfword (R286). -/
def rachAction (accd accs : BitVec 1) (imm1 : Nat) (s : State) : Action :=
  .writes (setAcc accd (roundAcc (accRead s accs) imm1 0x80000000 0x00007FFF00000000 0xFFFFFFFF00000000))

/-- RACH executed alone (R286). -/
def execRach (accd accs : BitVec 1) (imm1 : Nat) (s : State) : Result :=
  finish 2 (rachAction accd accs imm1 s) s

/-- `MVFACHI Rdest,Asrc`: bits [63:32] of the access view (R287). -/
def mvfachiAction (dest : RegNum) (accs : BitVec 1) (s : State) : Action :=
  .writes (setReg s dest ((accRead s accs).extractLsb' 32 32))

/-- MVFACHI executed alone (R287). -/
def execMvfachi (dest : RegNum) (accs : BitVec 1) (s : State) : Result :=
  finish 2 (mvfachiAction dest accs s) s

/-- `MVFACLO Rdest,Asrc`: bits [31:0] (R288). -/
def mvfacloAction (dest : RegNum) (accs : BitVec 1) (s : State) : Action :=
  .writes (setReg s dest ((accRead s accs).extractLsb' 0 32))

/-- MVFACLO executed alone (R288). -/
def execMvfaclo (dest : RegNum) (accs : BitVec 1) (s : State) : Result :=
  finish 2 (mvfacloAction dest accs s) s

/-- `MVFACMI Rdest,Asrc`: bits [47:16] (R289). -/
def mvfacmiAction (dest : RegNum) (accs : BitVec 1) (s : State) : Action :=
  .writes (setReg s dest ((accRead s accs).extractLsb' 16 32))

/-- MVFACMI executed alone (R289). -/
def execMvfacmi (dest : RegNum) (accs : BitVec 1) (s : State) : Result :=
  finish 2 (mvfacmiAction dest accs s) s

/-- `MVTACHI Rsrc,Adest`: bits [63:32] of the access view, the top eight dropped; the low word is kept (R290). -/
def mvtachiAction (src : RegNum) (accd : BitVec 1) (s : State) : Action :=
  .writes (setAcc accd (readReg s src ++ (accRead s accd).extractLsb' 0 32))

/-- MVTACHI executed alone (R290). -/
def execMvtachi (src : RegNum) (accd : BitVec 1) (s : State) : Result :=
  finish 2 (mvtachiAction src accd s) s

/-- `MVTACLO Rsrc,Adest`: bits [31:0]; the high part is kept (R291). -/
def mvtacloAction (src : RegNum) (accd : BitVec 1) (s : State) : Action :=
  .writes (setAcc accd ((accRead s accd).extractLsb' 32 32 ++ readReg s src))

/-- MVTACLO executed alone (R291). -/
def execMvtaclo (src : RegNum) (accd : BitVec 1) (s : State) : Result :=
  finish 2 (mvtacloAction src accd s) s

/-- Signed saturation of a register value to the range `low` to `high` (R292, R293). -/
def saturate (v high low : Word) : Word :=
  if high.sle v then high else if v.sle low then low else v

/-- `SATB Rdest,Rsrc`: signed saturation to a byte (PRESUMED: D33, log 25) (R292). -/
def satbAction (dest src : RegNum) (s : State) : Action :=
  .writes (setReg s dest (saturate (readReg s src) 0x0000007F 0xFFFFFF80))

/-- SATB executed alone (R292). -/
def execSatb (dest src : RegNum) (s : State) : Result :=
  finish 4 (satbAction dest src s) s

/-- `SATH Rdest,Rsrc`: signed saturation to a halfword (R293). -/
def sathAction (dest src : RegNum) (s : State) : Action :=
  .writes (setReg s dest (saturate (readReg s src) 0x00007FFF 0xFFFF8000))

/-- SATH executed alone (R293). -/
def execSath (dest src : RegNum) (s : State) : Result :=
  finish 4 (sathAction dest src s) s

end Sys2Proof.Machine
end

