-- ==== Sys2Proof/Machine/LoadStore.lean ====
section
/-! DEFINITION. Load and store instructions (`40_load_store.md`). None changes C (R140). -/

namespace Sys2Proof.Machine

/-- A load of `n` bytes at `ea` into `dest`: `ext` extends the datum to the register's value (R73, R140). -/
def loadAction (n : Nat) (ea : Word) (dest : RegNum) (ext : Word → Word) (s : State) : Action :=
  checked .load n ea s (.writes (withRead ea n s (setReg s dest (ext (dataRead ea n s)))))

/-- A store of `bytes` at `ea`, with the address register's update `regs` (R140). -/
def storeAction (ea : Word) (bytes : List Byte) (regs : List (Slot × Word)) (s : State) : Action :=
  checked .store bytes.length ea s (.writes (withWrite ea bytes s { regs := regs }))

/-- A byte datum sign-extended (R73). -/
def extByte (v : Word) : Word := sext (v.extractLsb' 0 8)

/-- A halfword datum sign-extended (R73). -/
def extHalf (v : Word) : Word := sext (v.extractLsb' 0 16)

/-- `LD Rdest,@Rsrc`: load word (R141). -/
def ldIndAction (dest src : RegNum) (s : State) : Action :=
  loadAction 4 (readReg s src) dest id s

/-- LD executed alone (R141). -/
def execLdInd (dest src : RegNum) (s : State) : Result :=
  finish 2 (ldIndAction dest src s) s

/-- `LD Rdest,@Rsrc+`: load word; the address is the register before it is incremented by 4 (R141). -/
def ldPostAction (dest src : RegNum) (s : State) : Action :=
  if dest = src then .stops (.refuse .sameRegisterUpdate)
  else checked .load 4 (readReg s src) s
    (.writes (withRead (readReg s src) 4 s
      { regs := [(slotOf s dest, dataRead (readReg s src) 4 s), (slotOf s src, readReg s src + 4)] }))

/-- LD executed alone (R141). -/
def execLdPost (dest src : RegNum) (s : State) : Result :=
  finish 2 (ldPostAction dest src s) s

/-- `LD Rdest,@(disp16,Rsrc)`: load word (R141). -/
def ldDispAction (dest : RegNum) (disp16 : BitVec 16) (src : RegNum) (s : State) : Action :=
  loadAction 4 (eaDisp s disp16 src) dest id s

/-- LD executed alone (R141). -/
def execLdDisp (dest : RegNum) (disp16 : BitVec 16) (src : RegNum) (s : State) : Result :=
  finish 4 (ldDispAction dest disp16 src s) s

/-- `LDB Rdest,@Rsrc`: load byte, sign-extended (R142). -/
def ldbIndAction (dest src : RegNum) (s : State) : Action :=
  loadAction 1 (readReg s src) dest extByte s

/-- LDB executed alone (R142). -/
def execLdbInd (dest src : RegNum) (s : State) : Result :=
  finish 2 (ldbIndAction dest src s) s

/-- `LDB Rdest,@(disp16,Rsrc)`: load byte, sign-extended (R142). -/
def ldbDispAction (dest : RegNum) (disp16 : BitVec 16) (src : RegNum) (s : State) : Action :=
  loadAction 1 (eaDisp s disp16 src) dest extByte s

/-- LDB executed alone (R142). -/
def execLdbDisp (dest : RegNum) (disp16 : BitVec 16) (src : RegNum) (s : State) : Result :=
  finish 4 (ldbDispAction dest disp16 src s) s

/-- `LDUB Rdest,@Rsrc`: load byte, zero-extended (R143). -/
def ldubIndAction (dest src : RegNum) (s : State) : Action :=
  loadAction 1 (readReg s src) dest id s

/-- LDUB executed alone (R143). -/
def execLdubInd (dest src : RegNum) (s : State) : Result :=
  finish 2 (ldubIndAction dest src s) s

/-- `LDUB Rdest,@(disp16,Rsrc)`: load byte, zero-extended (R143). -/
def ldubDispAction (dest : RegNum) (disp16 : BitVec 16) (src : RegNum) (s : State) : Action :=
  loadAction 1 (eaDisp s disp16 src) dest id s

/-- LDUB executed alone (R143). -/
def execLdubDisp (dest : RegNum) (disp16 : BitVec 16) (src : RegNum) (s : State) : Result :=
  finish 4 (ldubDispAction dest disp16 src s) s

/-- `LDH Rdest,@Rsrc`: load halfword, sign-extended (R144). -/
def ldhIndAction (dest src : RegNum) (s : State) : Action :=
  loadAction 2 (readReg s src) dest extHalf s

/-- LDH executed alone (R144). -/
def execLdhInd (dest src : RegNum) (s : State) : Result :=
  finish 2 (ldhIndAction dest src s) s

/-- `LDH Rdest,@(disp16,Rsrc)`: load halfword, sign-extended (R144). -/
def ldhDispAction (dest : RegNum) (disp16 : BitVec 16) (src : RegNum) (s : State) : Action :=
  loadAction 2 (eaDisp s disp16 src) dest extHalf s

/-- LDH executed alone (R144). -/
def execLdhDisp (dest : RegNum) (disp16 : BitVec 16) (src : RegNum) (s : State) : Result :=
  finish 4 (ldhDispAction dest disp16 src s) s

/-- `LDUH Rdest,@Rsrc`: load halfword, zero-extended (R145). -/
def lduhIndAction (dest src : RegNum) (s : State) : Action :=
  loadAction 2 (readReg s src) dest id s

/-- LDUH executed alone (R145). -/
def execLduhInd (dest src : RegNum) (s : State) : Result :=
  finish 2 (lduhIndAction dest src s) s

/-- `LDUH Rdest,@(disp16,Rsrc)`: load halfword, zero-extended (R145). -/
def lduhDispAction (dest : RegNum) (disp16 : BitVec 16) (src : RegNum) (s : State) : Action :=
  loadAction 2 (eaDisp s disp16 src) dest id s

/-- LDUH executed alone (R145). -/
def execLduhDisp (dest : RegNum) (disp16 : BitVec 16) (src : RegNum) (s : State) : Result :=
  finish 4 (lduhDispAction dest disp16 src s) s

/-- `LOCK Rdest,@Rsrc`: load word and set the LOCK bit (R146). -/
def lockAction (dest src : RegNum) (s : State) : Action :=
  checked .load 4 (readReg s src) s
    (.writes (withRead (readReg s src) 4 s { regs := [(slotOf s dest, dataRead (readReg s src) 4 s)], lock := some true }))

/-- LOCK executed alone (R146). -/
def execLock (dest src : RegNum) (s : State) : Result :=
  finish 2 (lockAction dest src s) s

/-- `ST Rsrc1,@Rsrc2`: store word (R147). -/
def stIndAction (src1 src2 : RegNum) (s : State) : Action :=
  storeAction (readReg s src2) (wordBytes (readReg s src1)) [] s

/-- ST executed alone (R147). -/
def execStInd (src1 src2 : RegNum) (s : State) : Result :=
  finish 2 (stIndAction src1 src2 s) s

/-- `ST Rsrc1,@+Rsrc2`: store word at the register incremented by 4 (R147). -/
def stPreIncAction (src1 src2 : RegNum) (s : State) : Action :=
  if src1 = src2 then .stops (.refuse .sameRegisterUpdate)
  else storeAction (readReg s src2 + 4) (wordBytes (readReg s src1)) [(slotOf s src2, readReg s src2 + 4)] s

/-- ST executed alone (R147). -/
def execStPreInc (src1 src2 : RegNum) (s : State) : Result :=
  finish 2 (stPreIncAction src1 src2 s) s

/-- `ST Rsrc1,@-Rsrc2`: store word at the register decremented by 4 (R147). -/
def stPreDecAction (src1 src2 : RegNum) (s : State) : Action :=
  if src1 = src2 then .stops (.refuse .sameRegisterUpdate)
  else storeAction (readReg s src2 - 4) (wordBytes (readReg s src1)) [(slotOf s src2, readReg s src2 - 4)] s

/-- ST executed alone (R147). -/
def execStPreDec (src1 src2 : RegNum) (s : State) : Result :=
  finish 2 (stPreDecAction src1 src2 s) s

/-- `ST Rsrc1,@(disp16,Rsrc2)`: store word (R147). -/
def stDispAction (src1 : RegNum) (disp16 : BitVec 16) (src2 : RegNum) (s : State) : Action :=
  storeAction (eaDisp s disp16 src2) (wordBytes (readReg s src1)) [] s

/-- ST executed alone (R147). -/
def execStDisp (src1 : RegNum) (disp16 : BitVec 16) (src2 : RegNum) (s : State) : Result :=
  finish 4 (stDispAction src1 disp16 src2 s) s

/-- `STB Rsrc1,@Rsrc2`: store the low byte (R148). -/
def stbIndAction (src1 src2 : RegNum) (s : State) : Action :=
  storeAction (readReg s src2) [(readReg s src1).extractLsb' 0 8] [] s

/-- STB executed alone (R148). -/
def execStbInd (src1 src2 : RegNum) (s : State) : Result :=
  finish 2 (stbIndAction src1 src2 s) s

/-- `STB Rsrc1,@Rsrc2+`: store the low byte, then increment the address register by 1; the same register may be both (R148). -/
def stbPostAction (src1 src2 : RegNum) (s : State) : Action :=
  storeAction (readReg s src2) [(readReg s src1).extractLsb' 0 8] [(slotOf s src2, readReg s src2 + 1)] s

/-- STB executed alone (R148). -/
def execStbPost (src1 src2 : RegNum) (s : State) : Result :=
  finish 2 (stbPostAction src1 src2 s) s

/-- `STB Rsrc1,@(disp16,Rsrc2)`: store the low byte (R148). -/
def stbDispAction (src1 : RegNum) (disp16 : BitVec 16) (src2 : RegNum) (s : State) : Action :=
  storeAction (eaDisp s disp16 src2) [(readReg s src1).extractLsb' 0 8] [] s

/-- STB executed alone (R148). -/
def execStbDisp (src1 : RegNum) (disp16 : BitVec 16) (src2 : RegNum) (s : State) : Result :=
  finish 4 (stbDispAction src1 disp16 src2 s) s

/-- `STH Rsrc1,@Rsrc2`: store the low halfword (R149). -/
def sthIndAction (src1 src2 : RegNum) (s : State) : Action :=
  storeAction (readReg s src2) (halfBytes ((readReg s src1).extractLsb' 0 16)) [] s

/-- STH executed alone (R149). -/
def execSthInd (src1 src2 : RegNum) (s : State) : Result :=
  finish 2 (sthIndAction src1 src2 s) s

/-- `STH Rsrc1,@Rsrc2+`: store the low halfword, then increment the address register by 2; the same register may be both (R149). -/
def sthPostAction (src1 src2 : RegNum) (s : State) : Action :=
  storeAction (readReg s src2) (halfBytes ((readReg s src1).extractLsb' 0 16)) [(slotOf s src2, readReg s src2 + 2)] s

/-- STH executed alone (R149). -/
def execSthPost (src1 src2 : RegNum) (s : State) : Result :=
  finish 2 (sthPostAction src1 src2 s) s

/-- `STH Rsrc1,@(disp16,Rsrc2)`: store the low halfword (R149). -/
def sthDispAction (src1 : RegNum) (disp16 : BitVec 16) (src2 : RegNum) (s : State) : Action :=
  storeAction (eaDisp s disp16 src2) (halfBytes ((readReg s src1).extractLsb' 0 16)) [] s

/-- STH executed alone (R149). -/
def execSthDisp (src1 : RegNum) (disp16 : BitVec 16) (src2 : RegNum) (s : State) : Result :=
  finish 4 (sthDispAction src1 disp16 src2 s) s

/-- `UNLOCK Rsrc1,@Rsrc2`: store word if the LOCK bit is 1, and clear the bit; AE only when it stores (D31) (R150). -/
def unlockAction (src1 src2 : RegNum) (s : State) : Action :=
  if s.lock then
    checked .store 4 (readReg s src2) s
      (.writes (withWrite (readReg s src2) (wordBytes (readReg s src1)) s { lock := some false }))
  else .writes { lock := some false }

/-- UNLOCK executed alone (R150). -/
def execUnlock (src1 src2 : RegNum) (s : State) : Result :=
  finish 2 (unlockAction src1 src2 s) s

end Sys2Proof.Machine
end

