-- ==== Sys2Proof/Machine/MulDivShift.lean ====
section
/-! DEFINITION. Multiplication, division, remainder and shift instructions (`43_muldiv_shift.md`): no EIT, C unchanged (R200,
R215). -/

namespace Sys2Proof.Machine

/-- The division family: a zero divisor leaves `dest` as it is (R214); otherwise `quot` is written. -/
def divideAction (s : State) (dest src : RegNum) (quot : Word → Word) : Action :=
  if readReg s src = 0 then .writes {} else .writes (setReg s dest (quot (readReg s src)))

/-- `sdiv`: signed quotient, truncated toward zero (R200). -/
def signedQuot (a b : Word) : Word := BitVec.ofInt 32 (a.toInt.tdiv b.toInt)

/-- `srem`: signed remainder, with the sign of the dividend (R200, R214). -/
def signedRem (a b : Word) : Word := BitVec.ofInt 32 (a.toInt.tmod b.toInt)

/-- `udiv` (R200). -/
def unsignedQuot (a b : Word) : Word := BitVec.ofNat 32 (a.toNat / b.toNat)

/-- `urem` (R200). -/
def unsignedRem (a b : Word) : Word := BitVec.ofNat 32 (a.toNat % b.toNat)

/-- The low byte of a register, sign-extended (R200). -/
def signedByte (v : Word) : Word := sext (v.extractLsb' 0 8)

/-- The low halfword of a register, sign-extended (R200). -/
def signedHalf (v : Word) : Word := sext (v.extractLsb' 0 16)

/-- The low byte of a register, zero-extended (R200). -/
def unsignedByte (v : Word) : Word := zext (v.extractLsb' 0 8)

/-- The low halfword of a register, zero-extended (R200). -/
def unsignedHalf (v : Word) : Word := zext (v.extractLsb' 0 16)

/-- The one signed overflow: -2^31 by -1 (R214). -/
def divOverflows (a b : Word) : Bool := a == 0x80000000 && b == 0xFFFFFFFF

/-- A free value into `dest`: the signed overflow of DIV and REM (R214, D22, log 23). -/
def freeResult (s : State) (dest : RegNum) : Action :=
  .writes { regs := [(slotOf s dest, Config.freeWord s.draws 0)], draws := true }

/-- `MUL Rdest,Rsrc`: low word of the product; both accumulators are destroyed (R53, log 22) (R201). -/
def mulAction (dest src : RegNum) (s : State) : Action :=
  .writes { regs := [(slotOf s dest, readReg s dest * readReg s src)]
            acc0 := some (Config.freeAcc s.draws 0)
            acc1 := some (Config.freeAcc s.draws 1)
            draws := true }

/-- MUL executed alone (R201). -/
def execMul (dest src : RegNum) (s : State) : Result :=
  finish 2 (mulAction dest src s) s

/-- `DIV Rdest,Rsrc`: signed quotient; free on overflow (R202). -/
def divAction (dest src : RegNum) (s : State) : Action :=
  if divOverflows (readReg s dest) (readReg s src) then freeResult s dest
  else divideAction s dest src (fun b => signedQuot (readReg s dest) b)

/-- DIV executed alone (R202). -/
def execDiv (dest src : RegNum) (s : State) : Result :=
  finish 4 (divAction dest src s) s

/-- `DIVB Rdest,Rsrc`: signed quotient of the byte dividend (R203). -/
def divbAction (dest src : RegNum) (s : State) : Action :=
  divideAction s dest src (fun b => signedQuot (signedByte (readReg s dest)) b)

/-- DIVB executed alone (R203). -/
def execDivb (dest src : RegNum) (s : State) : Result :=
  finish 4 (divbAction dest src s) s

/-- `DIVH Rdest,Rsrc`: signed quotient of the half dividend (R204). -/
def divhAction (dest src : RegNum) (s : State) : Action :=
  divideAction s dest src (fun b => signedQuot (signedHalf (readReg s dest)) b)

/-- DIVH executed alone (R204). -/
def execDivh (dest src : RegNum) (s : State) : Result :=
  finish 4 (divhAction dest src s) s

/-- `DIVU Rdest,Rsrc`: unsigned quotient (R205). -/
def divuAction (dest src : RegNum) (s : State) : Action :=
  divideAction s dest src (fun b => unsignedQuot (readReg s dest) b)

/-- DIVU executed alone (R205). -/
def execDivu (dest src : RegNum) (s : State) : Result :=
  finish 4 (divuAction dest src s) s

/-- `DIVUB Rdest,Rsrc`: unsigned quotient of the byte dividend (R206). -/
def divubAction (dest src : RegNum) (s : State) : Action :=
  divideAction s dest src (fun b => unsignedQuot (unsignedByte (readReg s dest)) b)

/-- DIVUB executed alone (R206). -/
def execDivub (dest src : RegNum) (s : State) : Result :=
  finish 4 (divubAction dest src s) s

/-- `DIVUH Rdest,Rsrc`: unsigned quotient of the half dividend (R207). -/
def divuhAction (dest src : RegNum) (s : State) : Action :=
  divideAction s dest src (fun b => unsignedQuot (unsignedHalf (readReg s dest)) b)

/-- DIVUH executed alone (R207). -/
def execDivuh (dest src : RegNum) (s : State) : Result :=
  finish 4 (divuhAction dest src s) s

/-- `REM Rdest,Rsrc`: signed remainder; free on overflow (R208). -/
def remAction (dest src : RegNum) (s : State) : Action :=
  if divOverflows (readReg s dest) (readReg s src) then freeResult s dest
  else divideAction s dest src (fun b => signedRem (readReg s dest) b)

/-- REM executed alone (R208). -/
def execRem (dest src : RegNum) (s : State) : Result :=
  finish 4 (remAction dest src s) s

/-- `REMB Rdest,Rsrc`: signed remainder of the byte dividend (R209). -/
def rembAction (dest src : RegNum) (s : State) : Action :=
  divideAction s dest src (fun b => signedRem (signedByte (readReg s dest)) b)

/-- REMB executed alone (R209). -/
def execRemb (dest src : RegNum) (s : State) : Result :=
  finish 4 (rembAction dest src s) s

/-- `REMH Rdest,Rsrc`: signed remainder of the half dividend (R210). -/
def remhAction (dest src : RegNum) (s : State) : Action :=
  divideAction s dest src (fun b => signedRem (signedHalf (readReg s dest)) b)

/-- REMH executed alone (R210). -/
def execRemh (dest src : RegNum) (s : State) : Result :=
  finish 4 (remhAction dest src s) s

/-- `REMU Rdest,Rsrc`: unsigned remainder (R211). -/
def remuAction (dest src : RegNum) (s : State) : Action :=
  divideAction s dest src (fun b => unsignedRem (readReg s dest) b)

/-- REMU executed alone (R211). -/
def execRemu (dest src : RegNum) (s : State) : Result :=
  finish 4 (remuAction dest src s) s

/-- `REMUB Rdest,Rsrc`: unsigned remainder of the byte dividend (R212). -/
def remubAction (dest src : RegNum) (s : State) : Action :=
  divideAction s dest src (fun b => unsignedRem (unsignedByte (readReg s dest)) b)

/-- REMUB executed alone (R212). -/
def execRemub (dest src : RegNum) (s : State) : Result :=
  finish 4 (remubAction dest src s) s

/-- `REMUH Rdest,Rsrc`: unsigned remainder of the half dividend (R213). -/
def remuhAction (dest src : RegNum) (s : State) : Action :=
  divideAction s dest src (fun b => unsignedRem (unsignedHalf (readReg s dest)) b)

/-- REMUH executed alone (R213). -/
def execRemuh (dest src : RegNum) (s : State) : Result :=
  finish 4 (remuhAction dest src s) s

/-- `SLL Rdest,Rsrc`: shift left, zeros in, count in the five low bits of the source (R216). -/
def sllAction (dest src : RegNum) (s : State) : Action :=
  .writes (setReg s dest (readReg s dest <<< shiftCount (readReg s src)))

/-- SLL executed alone (R216). -/
def execSll (dest src : RegNum) (s : State) : Result :=
  finish 2 (sllAction dest src s) s

/-- `SLL3 Rdest,Rsrc,#imm16`: shift left, zeros in, count in the five low bits of the immediate (R217). -/
def sll3Action (dest src : RegNum) (imm16 : BitVec 16) (s : State) : Action :=
  .writes (setReg s dest (readReg s src <<< shiftCount16 imm16))

/-- SLL3 executed alone (R217). -/
def execSll3 (dest src : RegNum) (imm16 : BitVec 16) (s : State) : Result :=
  finish 4 (sll3Action dest src imm16 s) s

/-- `SLLI Rdest,#imm5`: shift left, zeros in, 5-bit count (R218). -/
def slliAction (dest : RegNum) (imm5 : BitVec 5) (s : State) : Action :=
  .writes (setReg s dest (readReg s dest <<< imm5.toNat))

/-- SLLI executed alone (R218). -/
def execSlli (dest : RegNum) (imm5 : BitVec 5) (s : State) : Result :=
  finish 2 (slliAction dest imm5 s) s

/-- `SRA Rdest,Rsrc`: shift right, sign in, count in the five low bits of the source (R219). -/
def sraAction (dest src : RegNum) (s : State) : Action :=
  .writes (setReg s dest ((readReg s dest).sshiftRight (shiftCount (readReg s src))))

/-- SRA executed alone (R219). -/
def execSra (dest src : RegNum) (s : State) : Result :=
  finish 2 (sraAction dest src s) s

/-- `SRA3 Rdest,Rsrc,#imm16`: shift right, sign in, count in the five low bits of the immediate (R220). -/
def sra3Action (dest src : RegNum) (imm16 : BitVec 16) (s : State) : Action :=
  .writes (setReg s dest ((readReg s src).sshiftRight (shiftCount16 imm16)))

/-- SRA3 executed alone (R220). -/
def execSra3 (dest src : RegNum) (imm16 : BitVec 16) (s : State) : Result :=
  finish 4 (sra3Action dest src imm16 s) s

/-- `SRAI Rdest,#imm5`: shift right, sign in, 5-bit count (R221). -/
def sraiAction (dest : RegNum) (imm5 : BitVec 5) (s : State) : Action :=
  .writes (setReg s dest ((readReg s dest).sshiftRight (imm5.toNat)))

/-- SRAI executed alone (R221). -/
def execSrai (dest : RegNum) (imm5 : BitVec 5) (s : State) : Result :=
  finish 2 (sraiAction dest imm5 s) s

/-- `SRL Rdest,Rsrc`: shift right, zeros in, count in the five low bits of the source (R222). -/
def srlAction (dest src : RegNum) (s : State) : Action :=
  .writes (setReg s dest (readReg s dest >>> shiftCount (readReg s src)))

/-- SRL executed alone (R222). -/
def execSrl (dest src : RegNum) (s : State) : Result :=
  finish 2 (srlAction dest src s) s

/-- `SRL3 Rdest,Rsrc,#imm16`: shift right, zeros in, count in the five low bits of the immediate (R223). -/
def srl3Action (dest src : RegNum) (imm16 : BitVec 16) (s : State) : Action :=
  .writes (setReg s dest (readReg s src >>> shiftCount16 imm16))

/-- SRL3 executed alone (R223). -/
def execSrl3 (dest src : RegNum) (imm16 : BitVec 16) (s : State) : Result :=
  finish 4 (srl3Action dest src imm16 s) s

/-- `SRLI Rdest,#imm5`: shift right, zeros in, 5-bit count (R224). -/
def srliAction (dest : RegNum) (imm5 : BitVec 5) (s : State) : Action :=
  .writes (setReg s dest (readReg s dest >>> imm5.toNat))

/-- SRLI executed alone (R224). -/
def execSrli (dest : RegNum) (imm5 : BitVec 5) (s : State) : Result :=
  finish 2 (srliAction dest imm5 s) s

end Sys2Proof.Machine
end

