-- ==== Sys2Proof/Machine/Transfer.lean ====
section
/-! DEFINITION. Transfer instructions (`41_transfer.md`). -/

namespace Sys2Proof.Machine

/-- `LD24 Rdest,#imm24`: zero-extended 24-bit immediate (R161). -/
def ld24Action (dest : RegNum) (imm24 : BitVec 24) (s : State) : Action :=
  .writes (setReg s dest (zext imm24))

/-- LD24 executed alone (R161). -/
def execLd24 (dest : RegNum) (imm24 : BitVec 24) (s : State) : Result :=
  finish 4 (ld24Action dest imm24 s) s

/-- `LDI Rdest,#imm8`: sign-extended 8-bit immediate (R162). -/
def ldi8Action (dest : RegNum) (imm8 : BitVec 8) (s : State) : Action :=
  .writes (setReg s dest (sext imm8))

/-- LDI executed alone (R162). -/
def execLdi8 (dest : RegNum) (imm8 : BitVec 8) (s : State) : Result :=
  finish 2 (ldi8Action dest imm8 s) s

/-- `LDI Rdest,#imm16`: sign-extended 16-bit immediate (R162). -/
def ldi16Action (dest : RegNum) (imm16 : BitVec 16) (s : State) : Action :=
  .writes (setReg s dest (sext imm16))

/-- LDI executed alone (R162). -/
def execLdi16 (dest : RegNum) (imm16 : BitVec 16) (s : State) : Result :=
  finish 4 (ldi16Action dest imm16 s) s

/-- `MV Rdest,Rsrc`: register to register (R163). -/
def mvAction (dest src : RegNum) (s : State) : Action :=
  .writes (setReg s dest (readReg s src))

/-- MV executed alone (R163). -/
def execMv (dest src : RegNum) (s : State) : Result :=
  finish 2 (mvAction dest src s) s

/-- The value of control register `cr` (R23, R164); `none` for the numbers that name no register. -/
def readControl (s : State) (cr : BitVec 4) : Option Word :=
  match cr.toNat with
  | 0 => some s.psw
  | 1 => some (boolWord (psw_c s.psw))
  | 2 => some s.spi
  | 3 => some s.spu
  | 5 => some (evbRead s)
  | 6 => some s.bpc
  | _ => none

/-- `MVFC Rdest,CRsrc`: control register to register, in both modes; a reserved number does what the platform says (D14) (R164). -/
def mvfcAction (dest : RegNum) (cr : BitVec 4) (s : State) : Action :=
  match readControl s cr with
  | some v => .writes (setReg s dest v)
  | none => reservedControl s cr (fun v => .writes (setReg s dest v))

/-- MVFC executed alone (R164). -/
def execMvfc (dest : RegNum) (cr : BitVec 4) (s : State) : Result :=
  finish 2 (mvfcAction dest cr s) s

/-- MVTC of the value `v` to control register `cr` in supervisor mode (R165). CBR ignores the write (R29); EVB can be
written once (R394, D19). -/
def writeControl (cr : BitVec 4) (v : Word) (s : State) : Action :=
  match cr.toNat with
  | 0 => checkedPm s (v &&& pswMask) (.writes { psw := some (v &&& pswMask), cond := some (psw_c v) })
  | 1 => .writes {}
  | 2 => .writes { regs := [(.spi, v)] }
  | 3 => .writes { regs := [(.spu, v)] }
  | 5 => if s.evbWritten then .stops (.refuse .secondEvbWrite) else .writes { evb := some (v &&& 0x7FFF0000) }
  | 6 => .writes { bpc := some (v &&& 0xFFFFFFFE) }
  | _ => reservedControl s cr (fun _ => .writes {})

/-- `MVTC Rsrc,CRdest`: register to control register, privileged; the PIE check comes first (R165). -/
def mvtcAction (src : RegNum) (cr : BitVec 4) (s : State) : Action :=
  privileged s (writeControl cr (readReg s src) s)

/-- MVTC executed alone (R165). -/
def execMvtc (src : RegNum) (cr : BitVec 4) (s : State) : Result :=
  finish 2 (mvtcAction src cr s) s

/-- `SETH Rdest,#imm16`: immediate to the high halfword, low halfword 0 (R166). -/
def sethAction (dest : RegNum) (imm16 : BitVec 16) (s : State) : Action :=
  .writes (setReg s dest (imm16 ++ 0#16))

/-- SETH executed alone (R166). -/
def execSeth (dest : RegNum) (imm16 : BitVec 16) (s : State) : Result :=
  finish 4 (sethAction dest imm16 s) s

end Sys2Proof.Machine
end

