-- ==== Sys2Proof/WellFormed.lean ====
section
/-! DEFINITION. Well-formed instructions and well-formed platforms. -/

namespace Sys2Proof

/-- `cpid` and `inst` fit the widths of `CP_FIELDS` (R302). -/
def Encoding.fieldsFit (c : Encoding) (inst cpid : BitVec 12) : Bool :=
  decide (cpid.toNat < 2 ^ c.cpidWidth.val) && decide (inst.toNat < 2 ^ (12 - c.cpidWidth.val))

/-- An instruction term that some instruction word stands for. Every field is a bit string of its printed width but for three
things: `#imm1` is 1 or 2 (R107, R285, R286), `cpid` and `inst` share 12 bits (R302), and OPECP is encoded only where the
platform supplies its pattern (R126, R305). -/
def Instr.wellFormed (c : Encoding) : Instr → Bool
  | .ldInd _ _ => true
  | .ldPost _ _ => true
  | .ldDisp _ _ _ => true
  | .ldbInd _ _ => true
  | .ldbDisp _ _ _ => true
  | .ldubInd _ _ => true
  | .ldubDisp _ _ _ => true
  | .ldhInd _ _ => true
  | .ldhDisp _ _ _ => true
  | .lduhInd _ _ => true
  | .lduhDisp _ _ _ => true
  | .lock _ _ => true
  | .stInd _ _ => true
  | .stPreInc _ _ => true
  | .stPreDec _ _ => true
  | .stDisp _ _ _ => true
  | .stbInd _ _ => true
  | .stbPost _ _ => true
  | .stbDisp _ _ _ => true
  | .sthInd _ _ => true
  | .sthPost _ _ => true
  | .sthDisp _ _ _ => true
  | .unlock _ _ => true
  | .ld24 _ _ => true
  | .ldi8 _ _ => true
  | .ldi16 _ _ => true
  | .mv _ _ => true
  | .mvfc _ _ => true
  | .mvtc _ _ => true
  | .seth _ _ => true
  | .cmp _ _ => true
  | .cmpeq _ _ => true
  | .cmpi _ _ => true
  | .cmpu _ _ => true
  | .cmpui _ _ => true
  | .cmpz _ => true
  | .pcmpbz _ => true
  | .add _ _ => true
  | .add3 _ _ _ => true
  | .addi _ _ => true
  | .addv _ _ => true
  | .addv3 _ _ _ => true
  | .addx _ _ => true
  | .neg _ _ => true
  | .sub _ _ => true
  | .subv _ _ => true
  | .subx _ _ => true
  | .and _ _ => true
  | .and3 _ _ _ => true
  | .not _ _ => true
  | .or _ _ => true
  | .or3 _ _ _ => true
  | .xor _ _ => true
  | .xor3 _ _ _ => true
  | .mul _ _ => true
  | .div _ _ => true
  | .divb _ _ => true
  | .divh _ _ => true
  | .divu _ _ => true
  | .divub _ _ => true
  | .divuh _ _ => true
  | .rem _ _ => true
  | .remb _ _ => true
  | .remh _ _ => true
  | .remu _ _ => true
  | .remub _ _ => true
  | .remuh _ _ => true
  | .sll _ _ => true
  | .sll3 _ _ _ => true
  | .slli _ _ => true
  | .sra _ _ => true
  | .sra3 _ _ _ => true
  | .srai _ _ => true
  | .srl _ _ => true
  | .srl3 _ _ _ => true
  | .srli _ _ => true
  | .bc8 _ => true
  | .bc24 _ => true
  | .bcl8 _ => true
  | .bcl24 _ => true
  | .bl8 _ => true
  | .bl24 _ => true
  | .bnc8 _ => true
  | .bnc24 _ => true
  | .bncl8 _ => true
  | .bncl24 _ => true
  | .bra8 _ => true
  | .bra24 _ => true
  | .beq _ _ _ => true
  | .bne _ _ _ => true
  | .beqz _ _ => true
  | .bnez _ _ => true
  | .bltz _ _ => true
  | .bgez _ _ => true
  | .blez _ _ => true
  | .bgtz _ _ => true
  | .jc _ => true
  | .jl _ => true
  | .jmp _ => true
  | .jnc _ => true
  | .nop => true
  | .sc => true
  | .snc => true
  | .bclr _ _ _ => true
  | .bset _ _ _ => true
  | .btst _ _ => true
  | .setpsw _ => true
  | .clrpsw _ => true
  | .trap _ => true
  | .rte => true
  | .mulhi _ _ _ => true
  | .mullo _ _ _ => true
  | .mulwhi _ _ => true
  | .mulwlo _ _ => true
  | .mulwu1 _ _ => true
  | .machi _ _ _ => true
  | .maclo _ _ _ => true
  | .macwhi _ _ => true
  | .macwlo _ _ => true
  | .maclh1 _ _ => true
  | .macwu1 _ _ => true
  | .msblo _ _ => true
  | .sadd => true
  | .rac _ _ imm1 => imm1 == 1 || imm1 == 2
  | .rach _ _ imm1 => imm1 == 1 || imm1 == 2
  | .mvfachi _ _ => true
  | .mvfaclo _ _ => true
  | .mvfacmi _ _ => true
  | .mvtachi _ _ => true
  | .mvtaclo _ _ => true
  | .satb _ _ => true
  | .sath _ _ => true
  | .mvfcp _ _ inst cpid => c.fieldsFit inst cpid
  | .mvtcp _ _ inst cpid => c.fieldsFit inst cpid
  | .opecp _ _ inst cpid => c.opecp.isSome && c.fieldsFit inst cpid

namespace Platform

/-- The word indices of every vector entry of the platform, RIE first (R351). -/
def indices (p : Platform) : List (BitVec 14) :=
  [p.rie.index, p.pie.index, p.ae.index, p.cde.index, p.cpi.index] ++ p.trap.toList ++ p.ei.map (fun e => e.index)

/-- D8: the vector offsets are distinct; that they are multiples of 4 below 0x10000 is in their type. Regions of the memory
map begin and end at word boundaries, so that no aligned access touches two (log 7). -/
def wf (p : Platform) : Bool :=
  decide p.indices.Nodup && p.memMap.all (fun r => r.base % 4 == 0 && r.size % 4 == 0)

end Platform

end Sys2Proof
end

