-- ==== Sys2Proof/Decode.lean ====
section
/-! DEFINITION. From instruction words to instructions and back (`30_encoding.md`): the encoding tables R121 and R122 row by
row, decoding of one 16-bit or 32-bit form, of the unit at a program counter (R310), the categories and allowed pairs
(R313 to R315), and the encoder. -/

namespace Sys2Proof

/-- One row of an encoding table (R130): a word is this form when its bits under `mask` equal `bits`; `build` reads the fields. -/
structure Row (n : Nat) where
  mask : BitVec n
  bits : BitVec n
  build : BitVec n → Instr

/-- `bits & mask == match` (R130). -/
def Row.fits {n : Nat} (r : Row n) (w : BitVec n) : Bool :=
  w &&& r.mask == r.bits

/-- 16-bit rows of major opcode 000 (R121). -/
def rows16m000 : List (Row 16) := [
  { mask := 0x70F0, bits := 0x0000, build := fun h => .subv (h.extractLsb' 8 4) (h.extractLsb' 0 4) },
  { mask := 0x70F0, bits := 0x0010, build := fun h => .subx (h.extractLsb' 8 4) (h.extractLsb' 0 4) },
  { mask := 0x70F0, bits := 0x0020, build := fun h => .sub (h.extractLsb' 8 4) (h.extractLsb' 0 4) },
  { mask := 0x70F0, bits := 0x0030, build := fun h => .neg (h.extractLsb' 8 4) (h.extractLsb' 0 4) },
  { mask := 0x70F0, bits := 0x0040, build := fun h => .cmp (h.extractLsb' 8 4) (h.extractLsb' 0 4) },
  { mask := 0x70F0, bits := 0x0050, build := fun h => .cmpu (h.extractLsb' 8 4) (h.extractLsb' 0 4) },
  { mask := 0x70F0, bits := 0x0060, build := fun h => .cmpeq (h.extractLsb' 8 4) (h.extractLsb' 0 4) },
  { mask := 0x7FF0, bits := 0x0070, build := fun h => .cmpz (h.extractLsb' 0 4) },
  { mask := 0x70F0, bits := 0x0080, build := fun h => .addv (h.extractLsb' 8 4) (h.extractLsb' 0 4) },
  { mask := 0x70F0, bits := 0x0090, build := fun h => .addx (h.extractLsb' 8 4) (h.extractLsb' 0 4) },
  { mask := 0x70F0, bits := 0x00A0, build := fun h => .add (h.extractLsb' 8 4) (h.extractLsb' 0 4) },
  { mask := 0x70F0, bits := 0x00B0, build := fun h => .not (h.extractLsb' 8 4) (h.extractLsb' 0 4) },
  { mask := 0x70F0, bits := 0x00C0, build := fun h => .and (h.extractLsb' 8 4) (h.extractLsb' 0 4) },
  { mask := 0x70F0, bits := 0x00D0, build := fun h => .xor (h.extractLsb' 8 4) (h.extractLsb' 0 4) },
  { mask := 0x70F0, bits := 0x00E0, build := fun h => .or (h.extractLsb' 8 4) (h.extractLsb' 0 4) },
  { mask := 0x78F0, bits := 0x00F0, build := fun h => .btst (h.extractLsb' 8 3) (h.extractLsb' 0 4) },
  { mask := 0x7FF0, bits := 0x0370, build := fun h => .pcmpbz (h.extractLsb' 0 4) } ]

/-- 16-bit rows of major opcode 001 (R121). -/
def rows16m001 : List (Row 16) := [
  { mask := 0x70F0, bits := 0x1000, build := fun h => .srl (h.extractLsb' 8 4) (h.extractLsb' 0 4) },
  { mask := 0x70F0, bits := 0x1020, build := fun h => .sra (h.extractLsb' 8 4) (h.extractLsb' 0 4) },
  { mask := 0x70F0, bits := 0x1040, build := fun h => .sll (h.extractLsb' 8 4) (h.extractLsb' 0 4) },
  { mask := 0x70F0, bits := 0x1060, build := fun h => .mul (h.extractLsb' 8 4) (h.extractLsb' 0 4) },
  { mask := 0x70F0, bits := 0x1080, build := fun h => .mv (h.extractLsb' 8 4) (h.extractLsb' 0 4) },
  { mask := 0x70F0, bits := 0x1090, build := fun h => .mvfc (h.extractLsb' 8 4) (h.extractLsb' 0 4) },
  { mask := 0x70F0, bits := 0x10A0, build := fun h => .mvtc (h.extractLsb' 0 4) (h.extractLsb' 8 4) },
  { mask := 0x7FFF, bits := 0x10D6, build := fun _ => .rte },
  { mask := 0x7FF0, bits := 0x10F0, build := fun h => .trap (h.extractLsb' 0 4) },
  { mask := 0x7FF0, bits := 0x1CC0, build := fun h => .jc (h.extractLsb' 0 4) },
  { mask := 0x7FF0, bits := 0x1DC0, build := fun h => .jnc (h.extractLsb' 0 4) },
  { mask := 0x7FF0, bits := 0x1EC0, build := fun h => .jl (h.extractLsb' 0 4) },
  { mask := 0x7FF0, bits := 0x1FC0, build := fun h => .jmp (h.extractLsb' 0 4) } ]

/-- 16-bit rows of major opcode 010 (R121). -/
def rows16m010 : List (Row 16) := [
  { mask := 0x70F0, bits := 0x2000, build := fun h => .stbInd (h.extractLsb' 8 4) (h.extractLsb' 0 4) },
  { mask := 0x70F0, bits := 0x2010, build := fun h => .stbPost (h.extractLsb' 8 4) (h.extractLsb' 0 4) },
  { mask := 0x70F0, bits := 0x2020, build := fun h => .sthInd (h.extractLsb' 8 4) (h.extractLsb' 0 4) },
  { mask := 0x70F0, bits := 0x2030, build := fun h => .sthPost (h.extractLsb' 8 4) (h.extractLsb' 0 4) },
  { mask := 0x70F0, bits := 0x2040, build := fun h => .stInd (h.extractLsb' 8 4) (h.extractLsb' 0 4) },
  { mask := 0x70F0, bits := 0x2050, build := fun h => .unlock (h.extractLsb' 8 4) (h.extractLsb' 0 4) },
  { mask := 0x70F0, bits := 0x2060, build := fun h => .stPreInc (h.extractLsb' 8 4) (h.extractLsb' 0 4) },
  { mask := 0x70F0, bits := 0x2070, build := fun h => .stPreDec (h.extractLsb' 8 4) (h.extractLsb' 0 4) },
  { mask := 0x70F0, bits := 0x2080, build := fun h => .ldbInd (h.extractLsb' 8 4) (h.extractLsb' 0 4) },
  { mask := 0x70F0, bits := 0x2090, build := fun h => .ldubInd (h.extractLsb' 8 4) (h.extractLsb' 0 4) },
  { mask := 0x70F0, bits := 0x20A0, build := fun h => .ldhInd (h.extractLsb' 8 4) (h.extractLsb' 0 4) },
  { mask := 0x70F0, bits := 0x20B0, build := fun h => .lduhInd (h.extractLsb' 8 4) (h.extractLsb' 0 4) },
  { mask := 0x70F0, bits := 0x20C0, build := fun h => .ldInd (h.extractLsb' 8 4) (h.extractLsb' 0 4) },
  { mask := 0x70F0, bits := 0x20D0, build := fun h => .lock (h.extractLsb' 8 4) (h.extractLsb' 0 4) },
  { mask := 0x70F0, bits := 0x20E0, build := fun h => .ldPost (h.extractLsb' 8 4) (h.extractLsb' 0 4) } ]

/-- 16-bit rows of major opcode 011 (R121). -/
def rows16m011 : List (Row 16) := [
  { mask := 0x7070, bits := 0x3000, build := fun h => .mulhi (h.extractLsb' 8 4) (h.extractLsb' 0 4) (h.extractLsb' 7 1) },
  { mask := 0x7070, bits := 0x3010, build := fun h => .mullo (h.extractLsb' 8 4) (h.extractLsb' 0 4) (h.extractLsb' 7 1) },
  { mask := 0x70F0, bits := 0x3020, build := fun h => .mulwhi (h.extractLsb' 8 4) (h.extractLsb' 0 4) },
  { mask := 0x70F0, bits := 0x3030, build := fun h => .mulwlo (h.extractLsb' 8 4) (h.extractLsb' 0 4) },
  { mask := 0x7070, bits := 0x3040, build := fun h => .machi (h.extractLsb' 8 4) (h.extractLsb' 0 4) (h.extractLsb' 7 1) },
  { mask := 0x7070, bits := 0x3050, build := fun h => .maclo (h.extractLsb' 8 4) (h.extractLsb' 0 4) (h.extractLsb' 7 1) },
  { mask := 0x70F0, bits := 0x3060, build := fun h => .macwhi (h.extractLsb' 8 4) (h.extractLsb' 0 4) },
  { mask := 0x70F0, bits := 0x3070, build := fun h => .macwlo (h.extractLsb' 8 4) (h.extractLsb' 0 4) } ]

/-- 16-bit rows of major opcode 100 (R121). -/
def rows16m100 : List (Row 16) := [
  { mask := 0x7000, bits := 0x4000, build := fun h => .addi (h.extractLsb' 8 4) (h.extractLsb' 0 8) } ]

/-- 16-bit rows of major opcode 101 (R121). -/
def rows16m101 : List (Row 16) := [
  { mask := 0x70E0, bits := 0x5000, build := fun h => .srli (h.extractLsb' 8 4) (h.extractLsb' 0 5) },
  { mask := 0x70E0, bits := 0x5020, build := fun h => .srai (h.extractLsb' 8 4) (h.extractLsb' 0 5) },
  { mask := 0x70E0, bits := 0x5040, build := fun h => .slli (h.extractLsb' 8 4) (h.extractLsb' 0 5) },
  { mask := 0x70FB, bits := 0x5070, build := fun h => .mvtachi (h.extractLsb' 8 4) (h.extractLsb' 2 1) },
  { mask := 0x70FB, bits := 0x5071, build := fun h => .mvtaclo (h.extractLsb' 8 4) (h.extractLsb' 2 1) },
  { mask := 0x7BFA, bits := 0x5080, build := fun h => .rach (h.extractLsb' 10 1) (h.extractLsb' 2 1) ((h.extractLsb' 0 1).toNat + 1) },
  { mask := 0x7BFA, bits := 0x5090, build := fun h => .rac (h.extractLsb' 10 1) (h.extractLsb' 2 1) ((h.extractLsb' 0 1).toNat + 1) },
  { mask := 0x70F0, bits := 0x50A0, build := fun h => .mulwu1 (h.extractLsb' 8 4) (h.extractLsb' 0 4) },
  { mask := 0x70F0, bits := 0x50B0, build := fun h => .macwu1 (h.extractLsb' 8 4) (h.extractLsb' 0 4) },
  { mask := 0x70F0, bits := 0x50C0, build := fun h => .maclh1 (h.extractLsb' 8 4) (h.extractLsb' 0 4) },
  { mask := 0x70F0, bits := 0x50D0, build := fun h => .msblo (h.extractLsb' 8 4) (h.extractLsb' 0 4) },
  { mask := 0x7FFF, bits := 0x50E4, build := fun _ => .sadd },
  { mask := 0x70FB, bits := 0x50F0, build := fun h => .mvfachi (h.extractLsb' 8 4) (h.extractLsb' 2 1) },
  { mask := 0x70FB, bits := 0x50F1, build := fun h => .mvfaclo (h.extractLsb' 8 4) (h.extractLsb' 2 1) },
  { mask := 0x70FB, bits := 0x50F2, build := fun h => .mvfacmi (h.extractLsb' 8 4) (h.extractLsb' 2 1) } ]

/-- 16-bit rows of major opcode 110 (R121). -/
def rows16m110 : List (Row 16) := [
  { mask := 0x7000, bits := 0x6000, build := fun h => .ldi8 (h.extractLsb' 8 4) (h.extractLsb' 0 8) } ]

/-- 16-bit rows of major opcode 111 (R121). -/
def rows16m111 : List (Row 16) := [
  { mask := 0x7FFF, bits := 0x7000, build := fun _ => .nop },
  { mask := 0x7F00, bits := 0x7100, build := fun h => .setpsw (h.extractLsb' 0 8) },
  { mask := 0x7F00, bits := 0x7200, build := fun h => .clrpsw (h.extractLsb' 0 8) },
  { mask := 0x7FFF, bits := 0x7401, build := fun _ => .sc },
  { mask := 0x7FFF, bits := 0x7501, build := fun _ => .snc },
  { mask := 0x7F00, bits := 0x7800, build := fun h => .bcl8 (h.extractLsb' 0 8) },
  { mask := 0x7F00, bits := 0x7900, build := fun h => .bncl8 (h.extractLsb' 0 8) },
  { mask := 0x7F00, bits := 0x7C00, build := fun h => .bc8 (h.extractLsb' 0 8) },
  { mask := 0x7F00, bits := 0x7D00, build := fun h => .bnc8 (h.extractLsb' 0 8) },
  { mask := 0x7F00, bits := 0x7E00, build := fun h => .bl8 (h.extractLsb' 0 8) },
  { mask := 0x7F00, bits := 0x7F00, build := fun h => .bra8 (h.extractLsb' 0 8) } ]

/-- The 81 rows of the 16-bit forms (R121). -/
def rows16 : List (Row 16) :=
  rows16m000 ++ rows16m001 ++ rows16m010 ++ rows16m011 ++ rows16m100 ++ rows16m101 ++ rows16m110 ++ rows16m111

/-- 32-bit rows of major opcode 1000 (R122). -/
def rows32m1000 : List (Row 32) := [
  { mask := 0xFFF00000, bits := 0x80400000, build := fun w => .cmpi (w.extractLsb' 16 4) (w.extractLsb' 0 16) },
  { mask := 0xFFF00000, bits := 0x80500000, build := fun w => .cmpui (w.extractLsb' 16 4) (w.extractLsb' 0 16) },
  { mask := 0xF0F0FFFF, bits := 0x80600200, build := fun w => .sath (w.extractLsb' 24 4) (w.extractLsb' 16 4) },
  { mask := 0xF0F0FFFF, bits := 0x80600300, build := fun w => .satb (w.extractLsb' 24 4) (w.extractLsb' 16 4) },
  { mask := 0xF0F00000, bits := 0x80800000, build := fun w => .addv3 (w.extractLsb' 24 4) (w.extractLsb' 16 4) (w.extractLsb' 0 16) },
  { mask := 0xF0F00000, bits := 0x80A00000, build := fun w => .add3 (w.extractLsb' 24 4) (w.extractLsb' 16 4) (w.extractLsb' 0 16) },
  { mask := 0xF0F00000, bits := 0x80C00000, build := fun w => .and3 (w.extractLsb' 24 4) (w.extractLsb' 16 4) (w.extractLsb' 0 16) },
  { mask := 0xF0F00000, bits := 0x80D00000, build := fun w => .xor3 (w.extractLsb' 24 4) (w.extractLsb' 16 4) (w.extractLsb' 0 16) },
  { mask := 0xF0F00000, bits := 0x80E00000, build := fun w => .or3 (w.extractLsb' 24 4) (w.extractLsb' 16 4) (w.extractLsb' 0 16) } ]

/-- 32-bit rows of major opcode 1001 (R122). -/
def rows32m1001 : List (Row 32) := [
  { mask := 0xF0F0FFFF, bits := 0x90000000, build := fun w => .div (w.extractLsb' 24 4) (w.extractLsb' 16 4) },
  { mask := 0xF0F0FFFF, bits := 0x90000010, build := fun w => .divh (w.extractLsb' 24 4) (w.extractLsb' 16 4) },
  { mask := 0xF0F0FFFF, bits := 0x90000018, build := fun w => .divb (w.extractLsb' 24 4) (w.extractLsb' 16 4) },
  { mask := 0xF0F0FFFF, bits := 0x90100000, build := fun w => .divu (w.extractLsb' 24 4) (w.extractLsb' 16 4) },
  { mask := 0xF0F0FFFF, bits := 0x90100010, build := fun w => .divuh (w.extractLsb' 24 4) (w.extractLsb' 16 4) },
  { mask := 0xF0F0FFFF, bits := 0x90100018, build := fun w => .divub (w.extractLsb' 24 4) (w.extractLsb' 16 4) },
  { mask := 0xF0F0FFFF, bits := 0x90200000, build := fun w => .rem (w.extractLsb' 24 4) (w.extractLsb' 16 4) },
  { mask := 0xF0F0FFFF, bits := 0x90200010, build := fun w => .remh (w.extractLsb' 24 4) (w.extractLsb' 16 4) },
  { mask := 0xF0F0FFFF, bits := 0x90200018, build := fun w => .remb (w.extractLsb' 24 4) (w.extractLsb' 16 4) },
  { mask := 0xF0F0FFFF, bits := 0x90300000, build := fun w => .remu (w.extractLsb' 24 4) (w.extractLsb' 16 4) },
  { mask := 0xF0F0FFFF, bits := 0x90300010, build := fun w => .remuh (w.extractLsb' 24 4) (w.extractLsb' 16 4) },
  { mask := 0xF0F0FFFF, bits := 0x90300018, build := fun w => .remub (w.extractLsb' 24 4) (w.extractLsb' 16 4) },
  { mask := 0xF0F00000, bits := 0x90800000, build := fun w => .srl3 (w.extractLsb' 24 4) (w.extractLsb' 16 4) (w.extractLsb' 0 16) },
  { mask := 0xF0F00000, bits := 0x90A00000, build := fun w => .sra3 (w.extractLsb' 24 4) (w.extractLsb' 16 4) (w.extractLsb' 0 16) },
  { mask := 0xF0F00000, bits := 0x90C00000, build := fun w => .sll3 (w.extractLsb' 24 4) (w.extractLsb' 16 4) (w.extractLsb' 0 16) },
  { mask := 0xF0FF0000, bits := 0x90F00000, build := fun w => .ldi16 (w.extractLsb' 24 4) (w.extractLsb' 0 16) } ]

/-- 32-bit rows of major opcode 1010 (R122). -/
def rows32m1010 : List (Row 32) := [
  { mask := 0xF0F00000, bits := 0xA0000000, build := fun w => .stbDisp (w.extractLsb' 24 4) (w.extractLsb' 0 16) (w.extractLsb' 16 4) },
  { mask := 0xF0F00000, bits := 0xA0200000, build := fun w => .sthDisp (w.extractLsb' 24 4) (w.extractLsb' 0 16) (w.extractLsb' 16 4) },
  { mask := 0xF0F00000, bits := 0xA0400000, build := fun w => .stDisp (w.extractLsb' 24 4) (w.extractLsb' 0 16) (w.extractLsb' 16 4) },
  { mask := 0xF8F00000, bits := 0xA0600000, build := fun w => .bset (w.extractLsb' 24 3) (w.extractLsb' 0 16) (w.extractLsb' 16 4) },
  { mask := 0xF8F00000, bits := 0xA0700000, build := fun w => .bclr (w.extractLsb' 24 3) (w.extractLsb' 0 16) (w.extractLsb' 16 4) },
  { mask := 0xF0F00000, bits := 0xA0800000, build := fun w => .ldbDisp (w.extractLsb' 24 4) (w.extractLsb' 0 16) (w.extractLsb' 16 4) },
  { mask := 0xF0F00000, bits := 0xA0900000, build := fun w => .ldubDisp (w.extractLsb' 24 4) (w.extractLsb' 0 16) (w.extractLsb' 16 4) },
  { mask := 0xF0F00000, bits := 0xA0A00000, build := fun w => .ldhDisp (w.extractLsb' 24 4) (w.extractLsb' 0 16) (w.extractLsb' 16 4) },
  { mask := 0xF0F00000, bits := 0xA0B00000, build := fun w => .lduhDisp (w.extractLsb' 24 4) (w.extractLsb' 0 16) (w.extractLsb' 16 4) },
  { mask := 0xF0F00000, bits := 0xA0C00000, build := fun w => .ldDisp (w.extractLsb' 24 4) (w.extractLsb' 0 16) (w.extractLsb' 16 4) } ]

/-- 32-bit rows of major opcode 1011 (R122). -/
def rows32m1011 : List (Row 32) := [
  { mask := 0xF0F00000, bits := 0xB0000000, build := fun w => .beq (w.extractLsb' 24 4) (w.extractLsb' 16 4) (w.extractLsb' 0 16) },
  { mask := 0xF0F00000, bits := 0xB0100000, build := fun w => .bne (w.extractLsb' 24 4) (w.extractLsb' 16 4) (w.extractLsb' 0 16) },
  { mask := 0xFFF00000, bits := 0xB0800000, build := fun w => .beqz (w.extractLsb' 16 4) (w.extractLsb' 0 16) },
  { mask := 0xFFF00000, bits := 0xB0900000, build := fun w => .bnez (w.extractLsb' 16 4) (w.extractLsb' 0 16) },
  { mask := 0xFFF00000, bits := 0xB0A00000, build := fun w => .bltz (w.extractLsb' 16 4) (w.extractLsb' 0 16) },
  { mask := 0xFFF00000, bits := 0xB0B00000, build := fun w => .bgez (w.extractLsb' 16 4) (w.extractLsb' 0 16) },
  { mask := 0xFFF00000, bits := 0xB0C00000, build := fun w => .blez (w.extractLsb' 16 4) (w.extractLsb' 0 16) },
  { mask := 0xFFF00000, bits := 0xB0D00000, build := fun w => .bgtz (w.extractLsb' 16 4) (w.extractLsb' 0 16) } ]

/-- 32-bit row of major opcode 1101 without coprocessor fields (R122). -/
def rows32m1101 : List (Row 32) := [
  { mask := 0xF0FF0000, bits := 0xD0C00000, build := fun w => .seth (w.extractLsb' 24 4) (w.extractLsb' 0 16) } ]

/-- 32-bit rows of major opcode 1110 (R122). -/
def rows32m1110 : List (Row 32) := [
  { mask := 0xF0000000, bits := 0xE0000000, build := fun w => .ld24 (w.extractLsb' 24 4) (w.extractLsb' 0 24) } ]

/-- 32-bit rows of major opcode 1111 (R122). -/
def rows32m1111 : List (Row 32) := [
  { mask := 0xFF000000, bits := 0xF8000000, build := fun w => .bcl24 (w.extractLsb' 0 24) },
  { mask := 0xFF000000, bits := 0xF9000000, build := fun w => .bncl24 (w.extractLsb' 0 24) },
  { mask := 0xFF000000, bits := 0xFC000000, build := fun w => .bc24 (w.extractLsb' 0 24) },
  { mask := 0xFF000000, bits := 0xFD000000, build := fun w => .bnc24 (w.extractLsb' 0 24) },
  { mask := 0xFF000000, bits := 0xFE000000, build := fun w => .bl24 (w.extractLsb' 0 24) },
  { mask := 0xFF000000, bits := 0xFF000000, build := fun w => .bra24 (w.extractLsb' 0 24) } ]

/-- The 51 rows of the 32-bit forms that no platform parameter changes (R122). -/
def rows32Fixed : List (Row 32) :=
  rows32m1000 ++ rows32m1001 ++ rows32m1010 ++ rows32m1011 ++ rows32m1101 ++ rows32m1110 ++ rows32m1111

/-- `width` ones at the low end of a coprocessor field. -/
def lowMask (width : Nat) : BitVec 12 := (1#12 <<< width) - 1

/-- The field of `width` bits whose least significant bit is bit `pos` of the word. -/
def fieldAt (w : Word) (pos width : Nat) : BitVec 12 := (w >>> pos).setWidth 12 &&& lowMask width

/-- A field put in place in a word. -/
def placeAt {n : Nat} (v : BitVec n) (pos : Nat) : Word := v.setWidth 32 <<< pos

/-- The `cpid` cell of MVFCP and MVTCP: the top of the second halfword (R302, `CP_FIELDS`). -/
def cpidField (c : Encoding) (w : Word) : BitVec 12 := fieldAt w (16 - c.cpidWidth.val) c.cpidWidth.val

/-- The `inst` cell of MVFCP and MVTCP: the bottom of the second halfword (R302, `CP_FIELDS`). -/
def instField (c : Encoding) (w : Word) : BitVec 12 := fieldAt w 0 (12 - c.cpidWidth.val)

/-- The constant bits of MVFCP and MVTCP: major 1101, the sub-op, and the four zeros between the two cells (R302). -/
def copMask (c : Encoding) : Word := 0xF0F00000 ||| (0xF#32 <<< (12 - c.cpidWidth.val))

/-- The two rows of major opcode 1101 with coprocessor fields (R122, R303, R304). -/
def rows32Cop (c : Encoding) : List (Row 32) := [
  { mask := copMask c, bits := 0xD0500000, build := fun w => .mvfcp (w.extractLsb' 24 4) (w.extractLsb' 16 4) (instField c w) (cpidField c w) },
  { mask := copMask c, bits := 0xD0600000, build := fun w => .mvtcp (w.extractLsb' 24 4) (w.extractLsb' 16 4) (instField c w) (cpidField c w) } ]

/-- The row of OPECP with the encoding a platform supplies (R305, `OPECP_ENCODING`). -/
def opecpRow (c : Encoding) (o : OpecpEncoding) : Row 32 where
  mask := o.pattern.mask
  bits := o.pattern.bits
  build w := .opecp (w.extractLsb' o.cdstAt 4) (w.extractLsb' o.csrcAt 4) (fieldAt w o.instAt (12 - c.cpidWidth.val))
    (fieldAt w o.cpidAt c.cpidWidth.val)

/-- The rows of the 32-bit forms on a platform: the 53 of R122, and OPECP where the platform supplies its encoding. -/
def rows32 (c : Encoding) : List (Row 32) :=
  rows32Fixed ++ rows32Cop c ++ (c.opecp.map (opecpRow c)).toList

/-- Two rows differ in a bit that both masks fix. -/
def Row.apart {n : Nat} (a b : Row n) : Bool := a.mask &&& b.mask &&& (a.bits ^^^ b.bits) != 0

/-- The bits a field covers. -/
def fieldMask (pos width : Nat) : Word := placeAt (lowMask width) pos

/-- An encoding a platform can supply for OPECP: a 32-bit form, its constant bits and its four fields apart from each other and
inside the word, no word shared with another form. -/
def OpecpEncoding.wf (c : Encoding) (o : OpecpEncoding) : Bool :=
  o.pattern.mask.getLsbD 31 && o.pattern.bits.getLsbD 31 && o.pattern.bits &&& ~~~o.pattern.mask == 0
    && decide (o.cdstAt + 4 ≤ 32) && decide (o.csrcAt + 4 ≤ 32) && decide (o.cpidAt + c.cpidWidth.val ≤ 32)
    && decide (o.instAt + (12 - c.cpidWidth.val) ≤ 32)
    && decide ([o.pattern.mask, fieldMask o.cdstAt 4, fieldMask o.csrcAt 4, fieldMask o.cpidAt c.cpidWidth.val,
      fieldMask o.instAt (12 - c.cpidWidth.val)].Pairwise (fun x y => x &&& y = 0))
    && (rows32Fixed ++ rows32Cop c).all (fun r => r.apart (opecpRow c o))

/-- A platform's encodings: the one of OPECP, where there is one, can be told from every other form. -/
def Encoding.wf (c : Encoding) : Bool := c.opecp.all (fun o => o.wf c)

/-- A 16-bit form is decoded from bits [14:0]; bit [15] takes no part (R103, R310). `none`: reserved (R126). -/
def decode16 (h : Half) : Option Instr :=
  (rows16.find? (fun r => r.fits h)).map (fun r => r.build h)

/-- A 32-bit form (R122). `none`: reserved (R126). -/
def decode32 (c : Encoding) (w : Word) : Option Instr :=
  ((rows32 c).find? (fun r => r.fits w)).map (fun r => r.build w)

/-- A reserved 16-bit pattern is in `RIE_SET` (R126). -/
def inRieSet16 (c : Encoding) (h : Half) : Bool := !c.noRie16.any (fun p => p.fits (h &&& 0x7FFF))

/-- A reserved 32-bit word is in `RIE_SET` (R126). -/
def inRieSet32 (c : Encoding) (w : Word) : Bool := !c.noRie32.any (fun p => p.fits w)

/-- The upper halfword of an instruction word, at the lower address (R77). -/
def upperHalf (w : Word) : Half := w.extractLsb' 16 16

/-- The lower halfword of an instruction word, at address + 2 (R77). -/
def lowerHalf (w : Word) : Half := w.extractLsb' 0 16

/-- The category of a 16-bit form (R313): O pipe only, either pipe, S pipe only. -/
inductive Category where
  | left
  | both
  | right
deriving DecidableEq, Repr

/-- Table 2.5.1 (R313); `none` for the 32-bit forms, which are never paired (R310). -/
def category : Instr → Option Category
  | .ldInd _ _ => some .left
  | .ldPost _ _ => some .left
  | .ldDisp _ _ _ => none
  | .ldbInd _ _ => some .left
  | .ldbDisp _ _ _ => none
  | .ldubInd _ _ => some .left
  | .ldubDisp _ _ _ => none
  | .ldhInd _ _ => some .left
  | .ldhDisp _ _ _ => none
  | .lduhInd _ _ => some .left
  | .lduhDisp _ _ _ => none
  | .lock _ _ => some .left
  | .stInd _ _ => some .left
  | .stPreInc _ _ => some .left
  | .stPreDec _ _ => some .left
  | .stDisp _ _ _ => none
  | .stbInd _ _ => some .left
  | .stbPost _ _ => some .left
  | .stbDisp _ _ _ => none
  | .sthInd _ _ => some .left
  | .sthPost _ _ => some .left
  | .sthDisp _ _ _ => none
  | .unlock _ _ => some .left
  | .ld24 _ _ => none
  | .ldi8 _ _ => some .both
  | .ldi16 _ _ => none
  | .mv _ _ => some .both
  | .mvfc _ _ => some .left
  | .mvtc _ _ => some .left
  | .seth _ _ => none
  | .cmp _ _ => some .both
  | .cmpeq _ _ => some .both
  | .cmpi _ _ => none
  | .cmpu _ _ => some .both
  | .cmpui _ _ => none
  | .cmpz _ => some .both
  | .pcmpbz _ => some .both
  | .add _ _ => some .both
  | .add3 _ _ _ => none
  | .addi _ _ => some .both
  | .addv _ _ => some .both
  | .addv3 _ _ _ => none
  | .addx _ _ => some .both
  | .neg _ _ => some .both
  | .sub _ _ => some .both
  | .subv _ _ => some .both
  | .subx _ _ => some .both
  | .and _ _ => some .both
  | .and3 _ _ _ => none
  | .not _ _ => some .both
  | .or _ _ => some .both
  | .or3 _ _ _ => none
  | .xor _ _ => some .both
  | .xor3 _ _ _ => none
  | .mul _ _ => some .right
  | .div _ _ => none
  | .divb _ _ => none
  | .divh _ _ => none
  | .divu _ _ => none
  | .divub _ _ => none
  | .divuh _ _ => none
  | .rem _ _ => none
  | .remb _ _ => none
  | .remh _ _ => none
  | .remu _ _ => none
  | .remub _ _ => none
  | .remuh _ _ => none
  | .sll _ _ => some .both
  | .sll3 _ _ _ => none
  | .slli _ _ => some .both
  | .sra _ _ => some .both
  | .sra3 _ _ _ => none
  | .srai _ _ => some .both
  | .srl _ _ => some .both
  | .srl3 _ _ _ => none
  | .srli _ _ => some .both
  | .bc8 _ => some .left
  | .bc24 _ => none
  | .bcl8 _ => some .left
  | .bcl24 _ => none
  | .bl8 _ => some .left
  | .bl24 _ => none
  | .bnc8 _ => some .left
  | .bnc24 _ => none
  | .bncl8 _ => some .left
  | .bncl24 _ => none
  | .bra8 _ => some .left
  | .bra24 _ => none
  | .beq _ _ _ => none
  | .bne _ _ _ => none
  | .beqz _ _ => none
  | .bnez _ _ => none
  | .bltz _ _ => none
  | .bgez _ _ => none
  | .blez _ _ => none
  | .bgtz _ _ => none
  | .jc _ => some .left
  | .jl _ => some .left
  | .jmp _ => some .left
  | .jnc _ => some .left
  | .nop => some .both
  | .sc => some .left
  | .snc => some .left
  | .bclr _ _ _ => none
  | .bset _ _ _ => none
  | .btst _ _ => some .left
  | .setpsw _ => some .left
  | .clrpsw _ => some .left
  | .trap _ => some .left
  | .rte => some .left
  | .mulhi _ _ _ => some .right
  | .mullo _ _ _ => some .right
  | .mulwhi _ _ => some .right
  | .mulwlo _ _ => some .right
  | .mulwu1 _ _ => some .right
  | .machi _ _ _ => some .right
  | .maclo _ _ _ => some .right
  | .macwhi _ _ => some .right
  | .macwlo _ _ => some .right
  | .maclh1 _ _ => some .right
  | .macwu1 _ _ => some .right
  | .msblo _ _ => some .right
  | .sadd => some .right
  | .rac _ _ _ => some .right
  | .rach _ _ _ => some .right
  | .mvfachi _ _ => some .right
  | .mvfaclo _ _ => some .right
  | .mvfacmi _ _ => some .right
  | .mvtachi _ _ => some .right
  | .mvtaclo _ _ => some .right
  | .satb _ _ => none
  | .sath _ _ => none
  | .mvfcp _ _ _ _ => none
  | .mvtcp _ _ _ _ => none
  | .opecp _ _ _ _ => none

/-- The pairs that can be executed in parallel: the four combinations of R314, and any `-S` instruction above the
alignment NOP (R315). -/
def pairAllowed (u l : Instr) : Bool :=
  match category u, category l with
  | some .left, some .both => true
  | some .left, some .right => true
  | some .both, some .both => true
  | some .both, some .right => true
  | some .right, some .both => l == .nop
  | _, _ => false

/-- What stands at a program counter (R310). -/
inductive Fetched where
  /-- One instruction, executed alone. -/
  | single (i : Instr)
  /-- A parallel pair, upper instruction first (R320). -/
  | pair (u l : Instr)
  /-- A pattern no row matches, in the unit of `len` bytes or in either half of a pair: RIE (R126, R325). -/
  | reserved (len : Word)
  /-- A reserved pattern that the platform takes out of `RIE_SET` (R126): nothing says what it does. -/
  | unassigned
  /-- Two instructions that cannot be executed in parallel (R314). -/
  | badPair
  /-- `pc = A + 2` in a word that is not two sequential halfwords (R317). -/
  | badEntry
deriving DecidableEq, Repr

/-- A decoded instruction, or the reserved pattern of `len` bytes. -/
def singleOr (rie : Bool) (len : Word) : Option Instr → Fetched
  | some i => .single i
  | none => if rie then .reserved len else .unassigned

/-- The unit of the word `w` at `pc`, where `lower` says that `pc[1] = 1` (R101, R310, R314, R317, R325). -/
def decodeUnit (c : Encoding) (lower : Bool) (w : Word) : Fetched :=
  match lower, w.getLsbD 31, w.getLsbD 15 with
  | false, true, _ => singleOr (inRieSet32 c w) 4 (decode32 c w)
  | false, false, false => singleOr (inRieSet16 c (upperHalf w)) 2 (decode16 (upperHalf w))
  | false, false, true =>
    match decode16 (upperHalf w), decode16 (lowerHalf w) with
    | some u, some l => if pairAllowed u l then .pair u l else .badPair
    | du, dl =>
      if (du.isNone && inRieSet16 c (upperHalf w)) || (dl.isNone && inRieSet16 c (lowerHalf w)) then .reserved 4 else .unassigned
  | true, false, false => singleOr (inRieSet16 c (lowerHalf w)) 2 (decode16 (lowerHalf w))
  | true, _, _ => .badEntry

/-- The word an instruction is written with: 16 bits with `p = 0`, or 32 bits. -/
inductive Code where
  | half (h : Half)
  | word (w : Word)
deriving DecidableEq, Repr

/-- The second halfword of MVFCP and MVTCP: `cpid`, four zeros, `inst` (R302). -/
def copCells (c : Encoding) (inst cpid : BitVec 12) : Word := placeAt cpid (16 - c.cpidWidth.val) ||| placeAt inst 0

/-- The word of OPECP with the encoding a platform supplies (R305). -/
def opecpWord (o : OpecpEncoding) (cprd cprs : BitVec 4) (inst cpid : BitVec 12) : Word :=
  o.pattern.bits ||| placeAt cprd o.cdstAt ||| placeAt cprs o.csrcAt ||| placeAt cpid o.cpidAt ||| placeAt inst o.instAt

/-- The encoding of an instruction, from the patterns of R121 and R122, most significant bit first; `p` is written 0.
`none` only for OPECP on a platform that supplies no encoding of it (R305). -/
def encode (c : Encoding) : Instr → Option Code
  | .ldInd dest src => some (.half (0b0010#4 ++ dest ++ 0b1100#4 ++ src))
  | .ldPost dest src => some (.half (0b0010#4 ++ dest ++ 0b1110#4 ++ src))
  | .ldDisp dest disp16 src => some (.word (0b1010#4 ++ dest ++ 0b1100#4 ++ src ++ disp16))
  | .ldbInd dest src => some (.half (0b0010#4 ++ dest ++ 0b1000#4 ++ src))
  | .ldbDisp dest disp16 src => some (.word (0b1010#4 ++ dest ++ 0b1000#4 ++ src ++ disp16))
  | .ldubInd dest src => some (.half (0b0010#4 ++ dest ++ 0b1001#4 ++ src))
  | .ldubDisp dest disp16 src => some (.word (0b1010#4 ++ dest ++ 0b1001#4 ++ src ++ disp16))
  | .ldhInd dest src => some (.half (0b0010#4 ++ dest ++ 0b1010#4 ++ src))
  | .ldhDisp dest disp16 src => some (.word (0b1010#4 ++ dest ++ 0b1010#4 ++ src ++ disp16))
  | .lduhInd dest src => some (.half (0b0010#4 ++ dest ++ 0b1011#4 ++ src))
  | .lduhDisp dest disp16 src => some (.word (0b1010#4 ++ dest ++ 0b1011#4 ++ src ++ disp16))
  | .lock dest src => some (.half (0b0010#4 ++ dest ++ 0b1101#4 ++ src))
  | .stInd src1 src2 => some (.half (0b0010#4 ++ src1 ++ 0b0100#4 ++ src2))
  | .stPreInc src1 src2 => some (.half (0b0010#4 ++ src1 ++ 0b0110#4 ++ src2))
  | .stPreDec src1 src2 => some (.half (0b0010#4 ++ src1 ++ 0b0111#4 ++ src2))
  | .stDisp src1 disp16 src2 => some (.word (0b1010#4 ++ src1 ++ 0b0100#4 ++ src2 ++ disp16))
  | .stbInd src1 src2 => some (.half (0b0010#4 ++ src1 ++ 0b0000#4 ++ src2))
  | .stbPost src1 src2 => some (.half (0b0010#4 ++ src1 ++ 0b0001#4 ++ src2))
  | .stbDisp src1 disp16 src2 => some (.word (0b1010#4 ++ src1 ++ 0b0000#4 ++ src2 ++ disp16))
  | .sthInd src1 src2 => some (.half (0b0010#4 ++ src1 ++ 0b0010#4 ++ src2))
  | .sthPost src1 src2 => some (.half (0b0010#4 ++ src1 ++ 0b0011#4 ++ src2))
  | .sthDisp src1 disp16 src2 => some (.word (0b1010#4 ++ src1 ++ 0b0010#4 ++ src2 ++ disp16))
  | .unlock src1 src2 => some (.half (0b0010#4 ++ src1 ++ 0b0101#4 ++ src2))
  | .ld24 dest imm24 => some (.word (0b1110#4 ++ dest ++ imm24))
  | .ldi8 dest imm8 => some (.half (0b0110#4 ++ dest ++ imm8))
  | .ldi16 dest imm16 => some (.word (0b1001#4 ++ dest ++ 0b11110000#8 ++ imm16))
  | .mv dest src => some (.half (0b0001#4 ++ dest ++ 0b1000#4 ++ src))
  | .mvfc dest cr => some (.half (0b0001#4 ++ dest ++ 0b1001#4 ++ cr))
  | .mvtc src cr => some (.half (0b0001#4 ++ cr ++ 0b1010#4 ++ src))
  | .seth dest imm16 => some (.word (0b1101#4 ++ dest ++ 0b11000000#8 ++ imm16))
  | .cmp src1 src2 => some (.half (0b0000#4 ++ src1 ++ 0b0100#4 ++ src2))
  | .cmpeq src1 src2 => some (.half (0b0000#4 ++ src1 ++ 0b0110#4 ++ src2))
  | .cmpi src imm16 => some (.word (0b100000000100#12 ++ src ++ imm16))
  | .cmpu src1 src2 => some (.half (0b0000#4 ++ src1 ++ 0b0101#4 ++ src2))
  | .cmpui src imm16 => some (.word (0b100000000101#12 ++ src ++ imm16))
  | .cmpz src => some (.half (0b000000000111#12 ++ src))
  | .pcmpbz src => some (.half (0b000000110111#12 ++ src))
  | .add dest src => some (.half (0b0000#4 ++ dest ++ 0b1010#4 ++ src))
  | .add3 dest src imm16 => some (.word (0b1000#4 ++ dest ++ 0b1010#4 ++ src ++ imm16))
  | .addi dest imm8 => some (.half (0b0100#4 ++ dest ++ imm8))
  | .addv dest src => some (.half (0b0000#4 ++ dest ++ 0b1000#4 ++ src))
  | .addv3 dest src imm16 => some (.word (0b1000#4 ++ dest ++ 0b1000#4 ++ src ++ imm16))
  | .addx dest src => some (.half (0b0000#4 ++ dest ++ 0b1001#4 ++ src))
  | .neg dest src => some (.half (0b0000#4 ++ dest ++ 0b0011#4 ++ src))
  | .sub dest src => some (.half (0b0000#4 ++ dest ++ 0b0010#4 ++ src))
  | .subv dest src => some (.half (0b0000#4 ++ dest ++ 0b0000#4 ++ src))
  | .subx dest src => some (.half (0b0000#4 ++ dest ++ 0b0001#4 ++ src))
  | .and dest src => some (.half (0b0000#4 ++ dest ++ 0b1100#4 ++ src))
  | .and3 dest src imm16 => some (.word (0b1000#4 ++ dest ++ 0b1100#4 ++ src ++ imm16))
  | .not dest src => some (.half (0b0000#4 ++ dest ++ 0b1011#4 ++ src))
  | .or dest src => some (.half (0b0000#4 ++ dest ++ 0b1110#4 ++ src))
  | .or3 dest src imm16 => some (.word (0b1000#4 ++ dest ++ 0b1110#4 ++ src ++ imm16))
  | .xor dest src => some (.half (0b0000#4 ++ dest ++ 0b1101#4 ++ src))
  | .xor3 dest src imm16 => some (.word (0b1000#4 ++ dest ++ 0b1101#4 ++ src ++ imm16))
  | .mul dest src => some (.half (0b0001#4 ++ dest ++ 0b0110#4 ++ src))
  | .div dest src => some (.word (0b1001#4 ++ dest ++ 0b0000#4 ++ src ++ 0b0000000000000000#16))
  | .divb dest src => some (.word (0b1001#4 ++ dest ++ 0b0000#4 ++ src ++ 0b0000000000011000#16))
  | .divh dest src => some (.word (0b1001#4 ++ dest ++ 0b0000#4 ++ src ++ 0b0000000000010000#16))
  | .divu dest src => some (.word (0b1001#4 ++ dest ++ 0b0001#4 ++ src ++ 0b0000000000000000#16))
  | .divub dest src => some (.word (0b1001#4 ++ dest ++ 0b0001#4 ++ src ++ 0b0000000000011000#16))
  | .divuh dest src => some (.word (0b1001#4 ++ dest ++ 0b0001#4 ++ src ++ 0b0000000000010000#16))
  | .rem dest src => some (.word (0b1001#4 ++ dest ++ 0b0010#4 ++ src ++ 0b0000000000000000#16))
  | .remb dest src => some (.word (0b1001#4 ++ dest ++ 0b0010#4 ++ src ++ 0b0000000000011000#16))
  | .remh dest src => some (.word (0b1001#4 ++ dest ++ 0b0010#4 ++ src ++ 0b0000000000010000#16))
  | .remu dest src => some (.word (0b1001#4 ++ dest ++ 0b0011#4 ++ src ++ 0b0000000000000000#16))
  | .remub dest src => some (.word (0b1001#4 ++ dest ++ 0b0011#4 ++ src ++ 0b0000000000011000#16))
  | .remuh dest src => some (.word (0b1001#4 ++ dest ++ 0b0011#4 ++ src ++ 0b0000000000010000#16))
  | .sll dest src => some (.half (0b0001#4 ++ dest ++ 0b0100#4 ++ src))
  | .sll3 dest src imm16 => some (.word (0b1001#4 ++ dest ++ 0b1100#4 ++ src ++ imm16))
  | .slli dest imm5 => some (.half (0b0101#4 ++ dest ++ 0b010#3 ++ imm5))
  | .sra dest src => some (.half (0b0001#4 ++ dest ++ 0b0010#4 ++ src))
  | .sra3 dest src imm16 => some (.word (0b1001#4 ++ dest ++ 0b1010#4 ++ src ++ imm16))
  | .srai dest imm5 => some (.half (0b0101#4 ++ dest ++ 0b001#3 ++ imm5))
  | .srl dest src => some (.half (0b0001#4 ++ dest ++ 0b0000#4 ++ src))
  | .srl3 dest src imm16 => some (.word (0b1001#4 ++ dest ++ 0b1000#4 ++ src ++ imm16))
  | .srli dest imm5 => some (.half (0b0101#4 ++ dest ++ 0b000#3 ++ imm5))
  | .bc8 pcdisp8 => some (.half (0b01111100#8 ++ pcdisp8))
  | .bc24 pcdisp24 => some (.word (0b11111100#8 ++ pcdisp24))
  | .bcl8 pcdisp8 => some (.half (0b01111000#8 ++ pcdisp8))
  | .bcl24 pcdisp24 => some (.word (0b11111000#8 ++ pcdisp24))
  | .bl8 pcdisp8 => some (.half (0b01111110#8 ++ pcdisp8))
  | .bl24 pcdisp24 => some (.word (0b11111110#8 ++ pcdisp24))
  | .bnc8 pcdisp8 => some (.half (0b01111101#8 ++ pcdisp8))
  | .bnc24 pcdisp24 => some (.word (0b11111101#8 ++ pcdisp24))
  | .bncl8 pcdisp8 => some (.half (0b01111001#8 ++ pcdisp8))
  | .bncl24 pcdisp24 => some (.word (0b11111001#8 ++ pcdisp24))
  | .bra8 pcdisp8 => some (.half (0b01111111#8 ++ pcdisp8))
  | .bra24 pcdisp24 => some (.word (0b11111111#8 ++ pcdisp24))
  | .beq src1 src2 pcdisp16 => some (.word (0b1011#4 ++ src1 ++ 0b0000#4 ++ src2 ++ pcdisp16))
  | .bne src1 src2 pcdisp16 => some (.word (0b1011#4 ++ src1 ++ 0b0001#4 ++ src2 ++ pcdisp16))
  | .beqz src pcdisp16 => some (.word (0b101100001000#12 ++ src ++ pcdisp16))
  | .bnez src pcdisp16 => some (.word (0b101100001001#12 ++ src ++ pcdisp16))
  | .bltz src pcdisp16 => some (.word (0b101100001010#12 ++ src ++ pcdisp16))
  | .bgez src pcdisp16 => some (.word (0b101100001011#12 ++ src ++ pcdisp16))
  | .blez src pcdisp16 => some (.word (0b101100001100#12 ++ src ++ pcdisp16))
  | .bgtz src pcdisp16 => some (.word (0b101100001101#12 ++ src ++ pcdisp16))
  | .jc src => some (.half (0b000111001100#12 ++ src))
  | .jl src => some (.half (0b000111101100#12 ++ src))
  | .jmp src => some (.half (0b000111111100#12 ++ src))
  | .jnc src => some (.half (0b000111011100#12 ++ src))
  | .nop => some (.half (0b0111000000000000#16))
  | .sc => some (.half (0b0111010000000001#16))
  | .snc => some (.half (0b0111010100000001#16))
  | .bclr bitpos disp16 src => some (.word (0b10100#5 ++ bitpos ++ 0b0111#4 ++ src ++ disp16))
  | .bset bitpos disp16 src => some (.word (0b10100#5 ++ bitpos ++ 0b0110#4 ++ src ++ disp16))
  | .btst bitpos src => some (.half (0b00000#5 ++ bitpos ++ 0b1111#4 ++ src))
  | .setpsw imm8 => some (.half (0b01110001#8 ++ imm8))
  | .clrpsw imm8 => some (.half (0b01110010#8 ++ imm8))
  | .trap imm4 => some (.half (0b000100001111#12 ++ imm4))
  | .rte => some (.half (0b0001000011010110#16))
  | .mulhi src1 src2 acc => some (.half (0b0011#4 ++ src1 ++ acc ++ 0b000#3 ++ src2))
  | .mullo src1 src2 acc => some (.half (0b0011#4 ++ src1 ++ acc ++ 0b001#3 ++ src2))
  | .mulwhi src1 src2 => some (.half (0b0011#4 ++ src1 ++ 0b0010#4 ++ src2))
  | .mulwlo src1 src2 => some (.half (0b0011#4 ++ src1 ++ 0b0011#4 ++ src2))
  | .mulwu1 src1 src2 => some (.half (0b0101#4 ++ src1 ++ 0b1010#4 ++ src2))
  | .machi src1 src2 acc => some (.half (0b0011#4 ++ src1 ++ acc ++ 0b100#3 ++ src2))
  | .maclo src1 src2 acc => some (.half (0b0011#4 ++ src1 ++ acc ++ 0b101#3 ++ src2))
  | .macwhi src1 src2 => some (.half (0b0011#4 ++ src1 ++ 0b0110#4 ++ src2))
  | .macwlo src1 src2 => some (.half (0b0011#4 ++ src1 ++ 0b0111#4 ++ src2))
  | .maclh1 src1 src2 => some (.half (0b0101#4 ++ src1 ++ 0b1100#4 ++ src2))
  | .macwu1 src1 src2 => some (.half (0b0101#4 ++ src1 ++ 0b1011#4 ++ src2))
  | .msblo src1 src2 => some (.half (0b0101#4 ++ src1 ++ 0b1101#4 ++ src2))
  | .sadd => some (.half (0b0101000011100100#16))
  | .rac accd accs imm1 => some (.half (0b01010#5 ++ accd ++ 0b0010010#7 ++ accs ++ 0b0#1 ++ BitVec.ofNat 1 (imm1 - 1)))
  | .rach accd accs imm1 => some (.half (0b01010#5 ++ accd ++ 0b0010000#7 ++ accs ++ 0b0#1 ++ BitVec.ofNat 1 (imm1 - 1)))
  | .mvfachi dest accs => some (.half (0b0101#4 ++ dest ++ 0b11110#5 ++ accs ++ 0b00#2))
  | .mvfaclo dest accs => some (.half (0b0101#4 ++ dest ++ 0b11110#5 ++ accs ++ 0b01#2))
  | .mvfacmi dest accs => some (.half (0b0101#4 ++ dest ++ 0b11110#5 ++ accs ++ 0b10#2))
  | .mvtachi src accd => some (.half (0b0101#4 ++ src ++ 0b01110#5 ++ accd ++ 0b00#2))
  | .mvtaclo src accd => some (.half (0b0101#4 ++ src ++ 0b01110#5 ++ accd ++ 0b01#2))
  | .satb dest src => some (.word (0b1000#4 ++ dest ++ 0b0110#4 ++ src ++ 0b0000001100000000#16))
  | .sath dest src => some (.word (0b1000#4 ++ dest ++ 0b0110#4 ++ src ++ 0b0000001000000000#16))
  | .mvfcp dest cpr inst cpid => some (.word ((0b1101#4 ++ dest ++ 0b0101#4 ++ cpr ++ 0#16) ||| copCells c inst cpid))
  | .mvtcp src cpr inst cpid => some (.word ((0b1101#4 ++ src ++ 0b0110#4 ++ cpr ++ 0#16) ||| copCells c inst cpid))
  | .opecp cprd cprs inst cpid => c.opecp.map (fun o => .word (opecpWord o cprd cprs inst cpid))

/-- What the decoder reads from one word of either width: a 16-bit form stands in the upper halfword (R101). -/
def decodeCode (c : Encoding) : Code → Fetched
  | .half h => decodeUnit c false (h ++ 0#16)
  | .word w => decodeUnit c false w

/-- The instruction in the word of a table row whose bits are `w`, with the encodings of the table: a 16-bit form with `p = 0` in
the upper halfword at a word boundary and zeros below it, or a 32-bit form. -/
def decodeTableWord (nbits w : Nat) : Option Instr :=
  match decodeCode Encoding.standard (if nbits ≤ 16 then .half (BitVec.ofNat 16 w &&& 0x7FFF) else .word (BitVec.ofNat 32 w)) with
  | .single i => some i
  | _ => none

end Sys2Proof
end

