-- ==== Sys2Proof/Machine/Action.lean ====
section
/-! DEFINITION. The action of every instruction, by its constructor: what a parallel pair runs on its two halves (R320), and
what a statement about all instructions ranges over. -/

namespace Sys2Proof.Machine

/-- What instruction `i` does on `s` at a position; only TRAP, SC and SNC depend on the position (R265, R251). -/
def action (pos : Position) (i : Instr) (s : State) : Action :=
  match i with
  | .ldInd dest src => ldIndAction dest src s
  | .ldPost dest src => ldPostAction dest src s
  | .ldDisp dest disp16 src => ldDispAction dest disp16 src s
  | .ldbInd dest src => ldbIndAction dest src s
  | .ldbDisp dest disp16 src => ldbDispAction dest disp16 src s
  | .ldubInd dest src => ldubIndAction dest src s
  | .ldubDisp dest disp16 src => ldubDispAction dest disp16 src s
  | .ldhInd dest src => ldhIndAction dest src s
  | .ldhDisp dest disp16 src => ldhDispAction dest disp16 src s
  | .lduhInd dest src => lduhIndAction dest src s
  | .lduhDisp dest disp16 src => lduhDispAction dest disp16 src s
  | .lock dest src => lockAction dest src s
  | .stInd src1 src2 => stIndAction src1 src2 s
  | .stPreInc src1 src2 => stPreIncAction src1 src2 s
  | .stPreDec src1 src2 => stPreDecAction src1 src2 s
  | .stDisp src1 disp16 src2 => stDispAction src1 disp16 src2 s
  | .stbInd src1 src2 => stbIndAction src1 src2 s
  | .stbPost src1 src2 => stbPostAction src1 src2 s
  | .stbDisp src1 disp16 src2 => stbDispAction src1 disp16 src2 s
  | .sthInd src1 src2 => sthIndAction src1 src2 s
  | .sthPost src1 src2 => sthPostAction src1 src2 s
  | .sthDisp src1 disp16 src2 => sthDispAction src1 disp16 src2 s
  | .unlock src1 src2 => unlockAction src1 src2 s
  | .ld24 dest imm24 => ld24Action dest imm24 s
  | .ldi8 dest imm8 => ldi8Action dest imm8 s
  | .ldi16 dest imm16 => ldi16Action dest imm16 s
  | .mv dest src => mvAction dest src s
  | .mvfc dest cr => mvfcAction dest cr s
  | .mvtc src cr => mvtcAction src cr s
  | .seth dest imm16 => sethAction dest imm16 s
  | .cmp src1 src2 => cmpAction src1 src2 s
  | .cmpeq src1 src2 => cmpeqAction src1 src2 s
  | .cmpi src imm16 => cmpiAction src imm16 s
  | .cmpu src1 src2 => cmpuAction src1 src2 s
  | .cmpui src imm16 => cmpuiAction src imm16 s
  | .cmpz src => cmpzAction src s
  | .pcmpbz src => pcmpbzAction src s
  | .add dest src => addAction dest src s
  | .add3 dest src imm16 => add3Action dest src imm16 s
  | .addi dest imm8 => addiAction dest imm8 s
  | .addv dest src => addvAction dest src s
  | .addv3 dest src imm16 => addv3Action dest src imm16 s
  | .addx dest src => addxAction dest src s
  | .neg dest src => negAction dest src s
  | .sub dest src => subAction dest src s
  | .subv dest src => subvAction dest src s
  | .subx dest src => subxAction dest src s
  | .and dest src => andAction dest src s
  | .and3 dest src imm16 => and3Action dest src imm16 s
  | .not dest src => notAction dest src s
  | .or dest src => orAction dest src s
  | .or3 dest src imm16 => or3Action dest src imm16 s
  | .xor dest src => xorAction dest src s
  | .xor3 dest src imm16 => xor3Action dest src imm16 s
  | .mul dest src => mulAction dest src s
  | .div dest src => divAction dest src s
  | .divb dest src => divbAction dest src s
  | .divh dest src => divhAction dest src s
  | .divu dest src => divuAction dest src s
  | .divub dest src => divubAction dest src s
  | .divuh dest src => divuhAction dest src s
  | .rem dest src => remAction dest src s
  | .remb dest src => rembAction dest src s
  | .remh dest src => remhAction dest src s
  | .remu dest src => remuAction dest src s
  | .remub dest src => remubAction dest src s
  | .remuh dest src => remuhAction dest src s
  | .sll dest src => sllAction dest src s
  | .sll3 dest src imm16 => sll3Action dest src imm16 s
  | .slli dest imm5 => slliAction dest imm5 s
  | .sra dest src => sraAction dest src s
  | .sra3 dest src imm16 => sra3Action dest src imm16 s
  | .srai dest imm5 => sraiAction dest imm5 s
  | .srl dest src => srlAction dest src s
  | .srl3 dest src imm16 => srl3Action dest src imm16 s
  | .srli dest imm5 => srliAction dest imm5 s
  | .bc8 pcdisp8 => bc8Action pcdisp8 s
  | .bc24 pcdisp24 => bc24Action pcdisp24 s
  | .bcl8 pcdisp8 => bcl8Action pcdisp8 s
  | .bcl24 pcdisp24 => bcl24Action pcdisp24 s
  | .bl8 pcdisp8 => bl8Action pcdisp8 s
  | .bl24 pcdisp24 => bl24Action pcdisp24 s
  | .bnc8 pcdisp8 => bnc8Action pcdisp8 s
  | .bnc24 pcdisp24 => bnc24Action pcdisp24 s
  | .bncl8 pcdisp8 => bncl8Action pcdisp8 s
  | .bncl24 pcdisp24 => bncl24Action pcdisp24 s
  | .bra8 pcdisp8 => bra8Action pcdisp8 s
  | .bra24 pcdisp24 => bra24Action pcdisp24 s
  | .beq src1 src2 pcdisp16 => beqAction src1 src2 pcdisp16 s
  | .bne src1 src2 pcdisp16 => bneAction src1 src2 pcdisp16 s
  | .beqz src pcdisp16 => beqzAction src pcdisp16 s
  | .bnez src pcdisp16 => bnezAction src pcdisp16 s
  | .bltz src pcdisp16 => bltzAction src pcdisp16 s
  | .bgez src pcdisp16 => bgezAction src pcdisp16 s
  | .blez src pcdisp16 => blezAction src pcdisp16 s
  | .bgtz src pcdisp16 => bgtzAction src pcdisp16 s
  | .jc src => jcAction src s
  | .jl src => jlAction src s
  | .jmp src => jmpAction src s
  | .jnc src => jncAction src s
  | .nop => nopAction s
  | .sc => scAction pos s
  | .snc => sncAction pos s
  | .bclr bitpos disp16 src => bclrAction bitpos disp16 src s
  | .bset bitpos disp16 src => bsetAction bitpos disp16 src s
  | .btst bitpos src => btstAction bitpos src s
  | .setpsw imm8 => setpswAction imm8 s
  | .clrpsw imm8 => clrpswAction imm8 s
  | .trap imm4 => trapAction pos imm4 s
  | .rte => rteAction s
  | .mulhi src1 src2 acc => mulhiAction src1 src2 acc s
  | .mullo src1 src2 acc => mulloAction src1 src2 acc s
  | .mulwhi src1 src2 => mulwhiAction src1 src2 s
  | .mulwlo src1 src2 => mulwloAction src1 src2 s
  | .mulwu1 src1 src2 => mulwu1Action src1 src2 s
  | .machi src1 src2 acc => machiAction src1 src2 acc s
  | .maclo src1 src2 acc => macloAction src1 src2 acc s
  | .macwhi src1 src2 => macwhiAction src1 src2 s
  | .macwlo src1 src2 => macwloAction src1 src2 s
  | .maclh1 src1 src2 => maclh1Action src1 src2 s
  | .macwu1 src1 src2 => macwu1Action src1 src2 s
  | .msblo src1 src2 => msbloAction src1 src2 s
  | .sadd => saddAction s
  | .rac accd accs imm1 => racAction accd accs imm1 s
  | .rach accd accs imm1 => rachAction accd accs imm1 s
  | .mvfachi dest accs => mvfachiAction dest accs s
  | .mvfaclo dest accs => mvfacloAction dest accs s
  | .mvfacmi dest accs => mvfacmiAction dest accs s
  | .mvtachi src accd => mvtachiAction src accd s
  | .mvtaclo src accd => mvtacloAction src accd s
  | .satb dest src => satbAction dest src s
  | .sath dest src => sathAction dest src s
  | .mvfcp dest cpr inst cpid => mvfcpAction dest cpr inst cpid s
  | .mvtcp src cpr inst cpid => mvtcpAction src cpr inst cpid s
  | .opecp cprd cprs inst cpid => opecpAction cprd cprs inst cpid s

/-- The length in bytes of the form (R120 to R122). -/
def instrLength (i : Instr) : Word :=
  if (category i).isSome then 2 else 4

end Sys2Proof.Machine
end

