-- ==== Sys2Proof/Machine/Parallel.lean ====
section
/-! DEFINITION. Parallel execution of two 16-bit instructions (`49_parallel_execution.md`): both act on the state before the
pair, and their writes are merged (R320 to R326). -/

namespace Sys2Proof.Machine

/-- The effect writes this storage. -/
def writesSlot (regs : List (Slot × Word)) (sl : Slot) : Bool :=
  regs.any (fun w => w.1 == sl)

/-- The register writes of a pair: storage that both halves write receives a free value (R322, D34, log 24). -/
def mergeRegs (n : Nat) (u l : List (Slot × Word)) : List (Slot × Word) :=
  u.map (fun w => if writesSlot l w.1 then (w.1, Config.freeWord n 2) else w)
    ++ l.filter (fun w => !writesSlot u w.1)

/-- Both halves write some storage (R322). -/
def regsCollide (u l : List (Slot × Word)) : Bool :=
  u.any (fun w => writesSlot l w.1)

/-- The write of C of a pair: free when both halves write it (R323, D34, log 24). -/
def mergeCond (n : Nat) : Option Bool → Option Bool → Option Bool
  | some _, some _ => some (Config.freeBit n 0)
  | some c, none => some c
  | none, c => c

/-- All writes of a pair, computed on the state before it (R320). -/
def mergeEffects (n : Nat) (u l : Effect) : Effect :=
  { regs := mergeRegs n u.regs l.regs
    psw := u.psw.or l.psw
    cond := mergeCond n u.cond l.cond
    evb := u.evb.or l.evb
    bpc := u.bpc.or l.bpc
    acc0 := u.acc0.or l.acc0
    acc1 := u.acc1.or l.acc1
    lock := u.lock.or l.lock
    store := u.store.or l.store
    cop := u.cop.or l.cop
    copReads := u.copReads + l.copReads
    device := u.device ++ l.device
    deviceReads := u.deviceReads + l.deviceReads
    pc := u.pc.or l.pc
    draws := u.draws || l.draws || regsCollide u.regs l.regs || (u.cond.isSome && l.cond.isSome) }

/-- Table 3.4.1 for a pair whose halves both decode (R325): the upper half's exception or stop discards both halves; SC and
SNC may cancel the lower half (R326). The lower half, `OS` or `-S`, never raises. -/
def pairActions (n : Nat) (u l : Action) : Action :=
  match u, l with
  | .raises ev, _ => .raises ev
  | .stops st, _ => .stops st
  | .writes eu, .raises ev => if eu.cancels then .writes eu else .raises ev
  | .writes eu, .stops st => if eu.cancels then .writes eu else .stops st
  | .writes eu, .writes el => if eu.cancels then .writes eu else .writes (mergeEffects n eu el)

/-- The pair `u || l` in the word at `s.pc`: next pc `A + 4`, BPC of an exception as R354 says for the word (R311, R325). -/
def execPair (u l : Instr) (s : State) : Result :=
  finish 4 (pairActions s.draws (action .pair u s) (action .pair l s)) s

end Sys2Proof.Machine
end

