-- ==== Sys2Proof/Machine/Fetch.lean ====
section
/-! DEFINITION. The start of a step: reset and interrupt acceptance (R344 to R347) and instruction fetch (R77, R90). -/

namespace Sys2Proof.Machine

/-- The lowest-numbered pending source of `IRQ` (R347); a number outside `IRQ` names no source. -/
def lowestPending (p : Platform) (pending : List Nat) : Option Nat :=
  (List.range p.ei.length).find? (fun k => pending.contains k)

/-- `CPI_pending`: the request of a coprocessor; with no coprocessor present it is never true (R301, R364). -/
def cpiRequested (s : State) : Bool := s.cpiPending && !s.platform.coprocessors.isEmpty

/-- The interrupt accepted at this step boundary: EI before CPI, gated by IE and CE (R344, R345, D29). -/
def pendingEvent (s : State) : Option Event :=
  match psw_ie s.psw, lowestPending s.platform s.eiPending with
  | true, some k => some (.ei k)
  | _, _ => if psw_ce s.psw && cpiRequested s then some .cpi else none

/-- `pc & 0xFFFFFFFC`, the address of the word fetched (R310). -/
def fetchAddress (s : State) : Word := s.pc &&& 0xFFFFFFFC

/-- Some byte of the word at `a` has been stored to since reset (R90, log 6). -/
def wordWritten (l : List Nat) (a : Word) : Bool :=
  l.contains a.toNat || l.contains (a + 1).toNat || l.contains (a + 2).toNat || l.contains (a + 3).toNat

/-- The stop a fetch meets: nothing mapped, a device, or a word stored to since reset (R85, R90, R91, D3, D5). -/
def fetchStop (s : State) : Option Stop :=
  match accessStop s.platform .fetch (fetchAddress s) 4 with
  | some st => some st
  | none => if wordWritten s.written (fetchAddress s) then some (.refuse (.selfModifiedCode (fetchAddress s))) else none

/-- The unit at `pc` (R77, R310). -/
def fetchUnit (s : State) : Fetched :=
  decodeUnit s.platform.encoding (s.pc.getLsbD 1) (readWord s.mem (fetchAddress s))

/-- The instruction word `w` stored at the word address `a`, as loaded before the run: the four addresses no longer count as
stored to since reset (log 33). -/
def loadWord (s : State) (a : Word) (w : Word) : State :=
  { s with
    mem := writeBytes s.mem a (wordBytes w)
    written := s.written.filter (fun b => !(b == a.toNat || b == (a + 1).toNat || b == (a + 2).toNat || b == (a + 3).toNat)) }

/-- The word at the program counter with a 16-bit instruction `h` placed where a step at `pc` executes it alone: in the upper
halfword above zeros, or in the lower halfword below an upper halfword whose bit 15 is cleared (R310). -/
def placeHalf (s : State) (h : Half) : Word :=
  if s.pc.getLsbD 1 then (upperHalf (readWord s.mem (fetchAddress s)) &&& 0x7FFF) ++ (h &&& 0x7FFF)
  else (h &&& 0x7FFF) ++ 0#16

end Sys2Proof.Machine
end

