-- ==== Sys2Proof/Machine/Step.lean ====
section
/-! DEFINITION. One step of the machine (R310, R344). -/

namespace Sys2Proof.Machine

/-- Execute what stands at the pc (R310): one instruction, a pair, or RIE (R325, R361). -/
def execUnit (u : Fetched) (s : State) : Host.Outcome State Fault Refusal :=
  match u with
  | .single i => exec i s
  | .pair u l => execPair u l s
  | .reserved len => finish len (.raises .rie) s
  | .unassigned => .refused .reservedPattern
  | .badPair => .refused .invalidPair
  | .badEntry => .refused .badHalfwordEntry

/-- One step: reset, else an accepted interrupt, else the unit at the pc where its fetch meets nothing (R344). A fetch that the
platform's rule for user mode turns away saves the pc. -/
def step (s : State) : Host.Outcome State Fault Refusal :=
  if s.resetRequest then .next (takeReset s)
  else match pendingEvent s with
    | some ev => .next (enterEIT ev s.pc s)
    | none =>
      match outsideAccess s.platform.userFetch s (fetchAddress s) with
      | some out => finish 0 out s
      | none =>
        match fetchStop s with
        | some st => stopResult st
        | none => execUnit (fetchUnit s) s

/-- `s` with an instruction of `nbits` bits placed where the next step fetches it and nothing pending before it: a 16-bit form
at the pc's halfword, to execute alone; a 32-bit form in the pc's word, the pc at its boundary (log 33). -/
def State.withFetchWord (s : State) (nbits w : Nat) : State :=
  { loadWord s (fetchAddress s) (if nbits ≤ 16 then placeHalf s (BitVec.ofNat 16 w) else BitVec.ofNat 32 w) with
    resetRequest := false
    eiPending := []
    cpiPending := false
    pc := if nbits ≤ 16 then s.pc else fetchAddress s }

end Sys2Proof.Machine
end

