-- ==== Sys2Proof/Safety.lean ====
section
/-! DEFINITION. The terms the statements use: what an instruction may write and that it writes nothing else (`Frame`), the
invariant of the machine (`Inv`), and the end of a run (R399). -/

namespace Sys2Proof.Machine

/-- What an instruction is allowed to write: register storage, the condition bit alone or the whole PSW, the other special
registers, the LOCK bit, the addresses it stores to, the coprocessor requests and answers, the device accesses and answers, the
free-value counter. Everything not named is unchanged. The pc is never part of it. -/
structure Footprint where
  slots : List Slot := []
  cond : Bool := false
  psw : Bool := false
  evb : Bool := false
  bpc : Bool := false
  acc0 : Bool := false
  acc1 : Bool := false
  lock : Bool := false
  bytes : List Word := []
  cop : Bool := false
  device : Bool := false
  draws : Bool := false

/-- From `s` to `t` only what the footprint names has changed: every other register, flag and special register is the same, every
byte of memory outside the footprint reads as before, the stored-to set grows by exactly the bytes of the footprint, and the
inputs and the platform are the same. -/
structure Frame (f : Footprint) (s t : State) : Prop where
  slots : ∀ sl, sl ∉ f.slots → readSlot t sl = readSlot s sl
  psw : f.psw = false → ∀ i, i ≠ 0 → t.psw.getLsbD i = s.psw.getLsbD i
  cond : f.psw = false → f.cond = false → psw_c t.psw = psw_c s.psw
  evb : f.evb = false → t.evb = s.evb ∧ t.evbWritten = s.evbWritten
  bpc : f.bpc = false → t.bpc = s.bpc
  acc0 : f.acc0 = false → t.acc0 = s.acc0
  acc1 : f.acc1 = false → t.acc1 = s.acc1
  lock : f.lock = false → t.lock = s.lock
  mem : ∀ a : Word, a ∉ f.bytes → readByte t.mem a = readByte s.mem a
  written : ∀ n : Nat, n ∈ t.written ↔ n ∈ s.written ∨ ∃ a ∈ f.bytes, a.toNat = n
  cop : f.cop = false → t.copRequests = s.copRequests ∧ t.copAnswers = s.copAnswers
  device : f.device = false → t.deviceAccesses = s.deviceAccesses ∧ t.deviceAnswers = s.deviceAnswers
  draws : f.draws = false → t.draws = s.draws
  inputs : t.resetRequest = s.resetRequest ∧ t.eiPending = s.eiPending ∧ t.cpiPending = s.cpiPending
    ∧ t.copDisabled = s.copDisabled
  platform : t.platform = s.platform

/-- The outcome is a next state with the pc `len` bytes on and only the footprint changed. -/
def RunsTo (len : Word) (f : Footprint) (s : State) (o : Result) (post : State → Prop) : Prop :=
  ∃ t, o = .next t ∧ t.pc = s.pc + len ∧ Frame f s t ∧ post t

/-- The outcome is a next state with the pc at `target` and only the footprint changed. -/
def JumpsTo (target : Word) (f : Footprint) (s : State) (o : Result) (post : State → Prop) : Prop :=
  ∃ t, o = .next t ∧ t.pc = target ∧ Frame f s t ∧ post t

/-- The instruction writes `v` to the general register `d`, and nothing else but the pc. -/
def WritesReg (len : Word) (s : State) (o : Result) (d : RegNum) (v : Word) : Prop :=
  RunsTo len { slots := [slotOf s d] } s o (fun t => readReg t d = v)

/-- The instruction writes `c` to the condition bit, and nothing else but the pc. -/
def WritesCond (len : Word) (s : State) (o : Result) (c : Bool) : Prop :=
  RunsTo len { cond := true } s o (fun t => psw_c t.psw = c)

/-- The `n` addresses from `a` on, wrapping modulo 2^32. -/
def byteRange : Word → Nat → List Word
  | _, 0 => []
  | a, n + 1 => a :: byteRange (a + 1) n

/-- An access of `n` bytes at `a` reaches memory: it meets neither AE, nor the platform's rule for user mode, nor a stop of the
memory map (R74, R78, R79). -/
def Accessible (k : Access) (n : Nat) (a : Word) (s : State) : Prop :=
  misaligned n a = false ∧ outsideAccess s.platform.userData s a = none ∧ accessStop s.platform k a n = none
    ∧ onDevice s.platform a n = false

/-- An access of `n` bytes at `a` meets the same checks and is issued to a device (R85). -/
def ReachesDevice (k : Access) (n : Nat) (a : Word) (s : State) : Prop :=
  misaligned n a = false ∧ outsideAccess s.platform.userData s a = none ∧ accessStop s.platform k a n = none
    ∧ onDevice s.platform a n = true

/-- The outcome of one read that reaches a device: `RunsTo` with the access issued once, one answer used up, and a free value drawn
only where there is no answer. The footprint names what else the instruction writes. -/
def ReadsDevice (len : Word) (f : Footprint) (n : Nat) (a : Word) (s : State) (o : Result) (post : State → Prop) : Prop :=
  RunsTo len { f with device := true, draws := s.deviceAnswers.isEmpty } s o (fun t =>
    t.deviceAccesses = s.deviceAccesses ++ [.read a n] ∧ t.deviceAnswers = s.deviceAnswers.drop 1 ∧ post t)

/-- The outcome of one write of `bytes` that reaches a device: no byte of memory changes, the access is issued once. -/
def WritesDevice (len : Word) (f : Footprint) (a : Word) (bytes : List Byte) (s : State) (o : Result) (post : State → Prop) : Prop :=
  RunsTo len { f with device := true } s o (fun t =>
    t.deviceAccesses = s.deviceAccesses ++ [.write a bytes] ∧ t.deviceAnswers = s.deviceAnswers ∧ post t)

/-- An address rounded down to a word boundary (R55, R230). -/
def wordFloor (a : Word) : Word := BitVec.ofNat 32 (a.toNat / 4 * 4)

/-- The target of a pc-relative branch as an integer computation modulo 2^32 (R230). -/
def relTarget {n : Nat} (pc : Word) (disp : BitVec n) : Word := BitVec.ofInt 32 ((pc.toNat / 4 * 4 : Nat) + 4 * disp.toInt)

/-- The 56 stored bits of an accumulator (R50). -/
def accOf (s : State) (a : AccNum) : Acc := if a = 0 then s.acc0 else s.acc1

/-- The instruction writes accumulator `a` and nothing else but the pc. -/
def WritesAcc (s : State) (o : Result) (a : AccNum) (post : State → Prop) : Prop :=
  RunsTo 2 { acc0 := a = 0, acc1 := a = 1 } s o post

/-- Signed value of the high halfword of a register (R270). -/
def hiInt (s : State) (r : RegNum) : Int := ((readReg s r).extractLsb' 16 16).toInt

/-- Signed value of the low halfword of a register (R270). -/
def loInt (s : State) (r : RegNum) : Int := ((readReg s r).extractLsb' 0 16).toInt

/-- Unsigned value of the low halfword of a register (R270). -/
def uloInt (s : State) (r : RegNum) : Int := ((readReg s r).extractLsb' 0 16).toNat

/-- Signed value of a register (R270). -/
def regInt (s : State) (r : RegNum) : Int := (readReg s r).toInt

/-- The writers of the condition bit (R28). -/
def condWriter : Instr → Bool
  | .addv _ _ | .addv3 _ _ _ | .subv _ _ | .addx _ _ | .subx _ _ => true
  | .cmp _ _ | .cmpi _ _ | .cmpu _ _ | .cmpui _ _ | .cmpeq _ _ | .cmpz _ | .pcmpbz _ | .btst _ _ => true
  | .mvtc _ _ | .setpsw _ | .clrpsw _ | .rte | .trap _ => true
  | _ => false

/-- The instructions that store to memory (R76). -/
def memoryWriter : Instr → Bool
  | .stInd _ _ | .stPreInc _ _ | .stPreDec _ _ | .stDisp _ _ _ => true
  | .stbInd _ _ | .stbPost _ _ | .stbDisp _ _ _ | .sthInd _ _ | .sthPost _ _ | .sthDisp _ _ _ => true
  | .unlock _ _ | .bset _ _ _ | .bclr _ _ _ => true
  | _ => false

/-- EIT entry by event `ev` at a unit of `len` bytes with nothing of the unit done: BPC receives what R354 and the platform's
`EIT_BPC_POLICY` say, the other registers are those of R350. -/
def Enters (ev : Event) (len : Word) (s : State) (o : Result) : Prop :=
  ∃ t, o = .next t ∧ Frame { psw := true, bpc := true } s t
    ∧ t.bpc = (savedPc s.platform ev s.pc (s.pc + len) &&& 0xFFFFFFFE) ∧ t.pc = vectorAddress s ev
    ∧ t.psw = withCond (entryPsw (eventEntry s.platform ev).clearsSM s.psw) false

/-- A rising list of addresses below 2^32. -/
def risingFrom : Nat → List Nat → Bool
  | _, [] => true
  | lo, a :: rest => decide (lo ≤ a) && decide (a < 2 ^ 32) && risingFrom (a + 1) rest

/-- The invariant of the machine: the pc and BPC are even (R33, R54), the reserved bits of PSW and EVB are 0 (R25, R31), memory
and the stored-to set are in canonical form. -/
structure Inv (s : State) : Prop where
  pc : s.pc.getLsbD 0 = false
  bpc : s.bpc.getLsbD 0 = false
  psw : s.psw &&& ~~~pswMask = 0
  evb : s.evb &&& ~~~0x7FFF0000 = 0
  mem : Memory.wf s.mem = true
  written : risingFrom 0 s.written = true

/-- Nothing comes before the unit at the pc: no reset, no accepted interrupt, no rule of the platform for user mode, no stop of the
fetch (R344, R79, R90, R91). -/
def Fetches (s : State) : Prop :=
  s.resetRequest = false ∧ pendingEvent s = none ∧ outsideAccess s.platform.userFetch s (fetchAddress s) = none
    ∧ fetchStop s = none

/-- The instructions of a unit (R310). -/
def unitInstrs : Fetched → List Instr
  | .single i => [i]
  | .pair u l => [u, l]
  | .reserved _ | .unassigned | .badPair | .badEntry => []

/-- The length in bytes of a unit that executes (R310, R311). -/
def unitLength : Fetched → Word
  | .single i => instrLength i
  | .pair _ _ => 4
  | .reserved len => len
  | .unassigned | .badPair | .badEntry => 4

/-- One step that is no reset: `step`, a pair executed on its own (R320), or one instruction, with the instructions it may execute
and the length of their unit. -/
def StepOf (is : List Instr) (len : Word) (s : State) (o : Result) : Prop :=
  (s.resetRequest = false ∧ o = step s ∧ is = unitInstrs (fetchUnit s) ∧ len = unitLength (fetchUnit s))
    ∨ (∃ u l, pairAllowed u l = true ∧ o = execPair u l s ∧ is = [u, l] ∧ len = 4)
    ∨ ∃ i, o = exec i s ∧ is = [i] ∧ len = instrLength i

/-- What an upper half that transfers control does beside its partner (R320): what the partner does alone, then the footprint of
the transfer, the pc at the target. -/
def WithPartner (l : Instr) (target : Word) (f : Footprint) (s : State) (o : Result) (post : State → Prop) : Prop :=
  ∃ tl t, exec l s = .next tl ∧ o = .next t ∧ t.pc = target ∧ Frame f tl t ∧ post t

/-- The lower half writes no part of `sl`. -/
def LeavesSlot (l : Instr) (sl : Slot) (s : State) : Prop :=
  ∃ e, action .pair l s = .writes e ∧ writesSlot e.regs sl = false

/-- The lower half does not write C. -/
def LeavesCond (l : Instr) (s : State) : Prop :=
  ∃ e, action .pair l s = .writes e ∧ e.cond = none

/-- The end of a run (R399): the unit at the pc is an unconditional branch to its own word, with no interrupt to come. -/
def AtRest (s : State) : Prop :=
  Fetches s ∧ s.pc.getLsbD 0 = false ∧ s.pc.getLsbD 1 = false
    ∧ (fetchUnit s = .single (.bra8 0) ∨ fetchUnit s = .single (.bra24 0))

end Sys2Proof.Machine
end

