-- ==== Sys2Proof/Certificates/Slice0/Obligations.lean ====
section
/-! DEFINITION. The statements for the provers. `Frame`, `RunsTo`, `WritesReg` and the other terms are those of
`Sys2Proof/Safety.lean`: every one of them says that the outcome IS a next state and that nothing outside the named
footprint changes. -/

open Sys2Proof Sys2Proof.Machine

/-! ### Encoding -/

/-- Decode and encode agree on every well-formed instruction, on every platform whose encodings can be told apart: every operand at
every value the encoding admits, OPECP in the encoding a platform supplies (`30_encoding.md`, R105, R120 to R122; the field split of
MVFCP and MVTCP and the encoding of OPECP are parameters of the spec's decision D12, log 19). -/
def Obligations.DecodeEncodeRoundTrip : Prop :=
  ∀ (c : Encoding) (i : Instr), c.wf = true → i.wellFormed c = true →
    ∃ w, encode c i = some w ∧ decodeCode c w = .single i

/-- The parallel bit does not select the instruction (R103). -/
def Obligations.ParallelBitDoesNotSelect : Prop :=
  ∀ h : Half, decode16 (h ||| 0x8000) = decode16 h ∧ decode16 (h &&& 0x7FFF) = decode16 h

/-- No word fits two rows of the table of its width, whatever encodings a well-formed platform supplies (R130). -/
def Obligations.RowsDoNotOverlap : Prop :=
  rows16.Pairwise (fun a b => ∀ h, ¬ (a.fits h = true ∧ b.fits h = true))
    ∧ ∀ c : Encoding, c.wf = true → (rows32 c).Pairwise (fun a b => ∀ w, ¬ (a.fits w = true ∧ b.fits w = true))

/-- Executing a reserved pattern of `RIE_SET` raises RIE, a 16-bit form alone or a 32-bit word; the 32-bit major opcode 1100 is
reserved as a whole, but for an OPECP that the platform places there. A reserved pattern that the platform takes out of `RIE_SET` is
refused (R123, R126, R361: the condition of RIE and its default set are the spec's decision D15, log 15; BPC is D10, log 16). -/
def Obligations.UnusedMajorRaisesRie : Prop :=
  (∀ (s : State) (w : Word), w.extractLsb' 28 4 = 0b1100#4 → (∀ o ∈ s.platform.encoding.opecp, o.pattern.fits w = false)
    → inRieSet32 s.platform.encoding w = true → Fetches s → s.pc.getLsbD 1 = false
    → readWord s.mem (wordFloor s.pc) = w → Enters .rie 4 s (step s))
  ∧ (∀ (s : State) (w : Word), Fetches s → s.pc.getLsbD 1 = false → readWord s.mem (wordFloor s.pc) = w → w.getLsbD 31 = true
    → decode32 s.platform.encoding w = none →
      (inRieSet32 s.platform.encoding w = true → Enters .rie 4 s (step s))
      ∧ (inRieSet32 s.platform.encoding w = false → step s = .refused .reservedPattern))
  ∧ (∀ (s : State) (h : Half), Fetches s → (readWord s.mem (wordFloor s.pc)).getLsbD 31 = false
    → (readWord s.mem (wordFloor s.pc)).getLsbD 15 = false
    → (if s.pc.getLsbD 1 then (readWord s.mem (wordFloor s.pc)).extractLsb' 0 16
        else (readWord s.mem (wordFloor s.pc)).extractLsb' 16 16) = h
    → decode16 h = none →
      (inRieSet16 s.platform.encoding h = true → Enters .rie 2 s (step s))
      ∧ (inRieSet16 s.platform.encoding h = false → step s = .refused .reservedPattern))

/-- Words written out from the encoding tables decode to the instructions they stand for. Two of them do not rest on a printed
[Encoding] box alone: the pattern of RAC is marked as general knowledge in R121 and R285 and its `imm1` bit in R106 and R285
(PRESUMED, logs 26 and 36), and the split of the second halfword of MVFCP is the spec's decision D12 (log 19). -/
def Obligations.SpecWordsDecode : Prop :=
  decode16 0b0000000110100010#16 = some (.add 1 2)
    ∧ decode16 0b0010000101111111#16 = some (.stPreDec 1 15)
    ∧ decode16 0b0001000011110001#16 = some (.trap 1)
    ∧ decode16 0b0101010010010001#16 = some (.rac 1 0 2)
    ∧ decode32 Encoding.standard 0b10100111011000100000000000000100#32 = some (.bset 7 4 2)
    ∧ decode32 Encoding.standard 0b11010001010100100000000000000000#32 = some (.mvfcp 1 2 0 0)
    ∧ decode32 Encoding.standard 0b10110001000000101111111111111111#32 = some (.beq 1 2 0xFFFF)
    ∧ decode32 Encoding.standard 0b10010001001000100000000000011000#32 = some (.remb 1 2)

/-! ### The step -/

/-- A step with nothing before it runs what the word at the pc decodes to (R310, R344): one instruction, then the step is `exec` of it
on the same state, which itself moves the pc; a pair (upper half with bit 15 clear, lower half with bit 15 set, both decoding, the
combination allowed), then it is `execPair`. -/
def Obligations.StepRunsDecodedInstruction : Prop :=
  (∀ (s : State) (i : Instr), Fetches s
    → decodeUnit s.platform.encoding (s.pc.getLsbD 1) (readWord s.mem (wordFloor s.pc)) = .single i → step s = exec i s)
  ∧ (∀ (s : State) (u l : Instr), Fetches s → s.pc.getLsbD 1 = false
    → (readWord s.mem (wordFloor s.pc)).getLsbD 31 = false → (readWord s.mem (wordFloor s.pc)).getLsbD 15 = true
    → decode16 ((readWord s.mem (wordFloor s.pc)).extractLsb' 16 16) = some u
    → decode16 ((readWord s.mem (wordFloor s.pc)).extractLsb' 0 16) = some l
    → pairAllowed u l = true → step s = execPair u l s)

/-- Every step keeps the invariant: pc and BPC even, reserved bits of PSW and EVB zero, memory and the stored-to set in
canonical form (R31, R33, R54; the reserved PSW bits are hardwired 0 by the spec's decision D16, R25, log 21; the canonical form is
the model's, log 2). -/
def Obligations.StepKeepsInvariant : Prop :=
  ∀ s t : State, Inv s → step s = .next t → Inv t

/-- The reset state meets the invariant. -/
def Obligations.ResetMeetsInvariant : Prop := Inv State.reset

/-- Reset: the state right after reset, and the state after a reset that the step takes in whatever state the machine was, have the
values R60 and R390 state: pc 0, PSW[7:0] and the reserved bits 0 (supervisor mode, interrupts disabled, R15 naming SPI), EVB 0 and
not yet written. That the step keeps memory and the pending inputs and consumes the request, and which registers are free after it
(the spec's decision D20), are the model's choices of log 18: R390 leaves memory and the pending requests to the platform. The zeros
that `State.reset` gives the registers without a stated value are not claimed (log 3). -/
def Obligations.ResetValues : Prop :=
  (State.reset.pc = 0 ∧ State.reset.psw &&& 0xFFFF32FF = 0 ∧ State.reset.evb = 0 ∧ State.reset.evbWritten = false
    ∧ slotOf State.reset 15 = .spi)
  ∧ ∀ s : State, s.resetRequest = true → ∃ t, step s = .next t ∧ t.pc = 0 ∧ t.psw &&& 0xFFFF32FF = 0
    ∧ t.evb = 0 ∧ t.evbWritten = false ∧ slotOf t 15 = .spi ∧ t.bpc.getLsbD 0 = false
    ∧ t.mem = s.mem ∧ t.platform = s.platform ∧ t.eiPending = s.eiPending ∧ t.cpiPending = s.cpiPending ∧ t.copDisabled = s.copDisabled
    ∧ t.resetRequest = false

/-! ### Registers -/

/-- R15 is SPI when SM = 0 and SPU when SM = 1, to read and to write; the other stack pointer is untouched (R22). -/
def Obligations.StackPointerBank : Prop :=
  ∀ (s : State) (d r : RegNum),
    (psw_sm s.psw = false →
      (∃ t, exec (.mv 15 r) s = .next t ∧ t.spi = readReg s r ∧ t.spu = s.spu ∧ t.gpr = s.gpr) ∧ readReg s 15 = s.spi)
    ∧ (psw_sm s.psw = true →
      (∃ t, exec (.mv 15 r) s = .next t ∧ t.spu = readReg s r ∧ t.spi = s.spi ∧ t.gpr = s.gpr) ∧ readReg s 15 = s.spu)
    ∧ (∃ t, exec (.mv d 15) s = .next t ∧ readReg t d = if psw_sm s.psw then s.spu else s.spi)

/-! ### Arithmetic and logic -/

/-- ADD, SUB, NEG, AND, OR, XOR, NOT and MV: the new value of the destination; C, the other registers, the special registers and
memory unchanged. -/
def Obligations.RegisterAluResults : Prop :=
  ∀ (s : State) (d r : RegNum),
    WritesReg 2 s (exec (.add d r) s) d (BitVec.ofNat 32 ((readReg s d).toNat + (readReg s r).toNat))
    ∧ WritesReg 2 s (exec (.sub d r) s) d (BitVec.ofInt 32 ((readReg s d).toNat - (readReg s r).toNat))
    ∧ WritesReg 2 s (exec (.neg d r) s) d (BitVec.ofInt 32 (-(readReg s r).toNat))
    ∧ WritesReg 2 s (exec (.and d r) s) d (readReg s d &&& readReg s r)
    ∧ WritesReg 2 s (exec (.or d r) s) d (readReg s d ||| readReg s r)
    ∧ WritesReg 2 s (exec (.xor d r) s) d (readReg s d ^^^ readReg s r)
    ∧ WritesReg 2 s (exec (.not d r) s) d (~~~ readReg s r)
    ∧ WritesReg 2 s (exec (.mv d r) s) d (readReg s r)

/-- ADD3, ADDI, AND3, OR3, XOR3, both LDI forms, LD24 and SETH: the new value of the destination with its immediate extended as
R106 says; C, the other registers, the special registers and memory unchanged. -/
def Obligations.ImmediateResults : Prop :=
  ∀ (s : State) (d r : RegNum) (imm8 : BitVec 8) (imm16 : BitVec 16) (imm24 : BitVec 24),
    WritesReg 4 s (exec (.add3 d r imm16) s) d (BitVec.ofInt 32 ((readReg s r).toNat + imm16.toInt))
    ∧ WritesReg 2 s (exec (.addi d imm8) s) d (BitVec.ofInt 32 ((readReg s d).toNat + imm8.toInt))
    ∧ WritesReg 4 s (exec (.and3 d r imm16) s) d (readReg s r &&& BitVec.ofNat 32 imm16.toNat)
    ∧ WritesReg 4 s (exec (.or3 d r imm16) s) d (readReg s r ||| BitVec.ofNat 32 imm16.toNat)
    ∧ WritesReg 4 s (exec (.xor3 d r imm16) s) d (readReg s r ^^^ BitVec.ofNat 32 imm16.toNat)
    ∧ WritesReg 2 s (exec (.ldi8 d imm8) s) d (BitVec.ofInt 32 imm8.toInt)
    ∧ WritesReg 4 s (exec (.ldi16 d imm16) s) d (BitVec.ofInt 32 imm16.toInt)
    ∧ WritesReg 4 s (exec (.ld24 d imm24) s) d (BitVec.ofNat 32 imm24.toNat)
    ∧ WritesReg 4 s (exec (.seth d imm16) s) d (BitVec.ofNat 32 (imm16.toNat * 65536))

/-- The nine shifts: the count is the operand modulo 32; C, the other registers and memory unchanged (R215). -/
def Obligations.ShiftResults : Prop :=
  ∀ (s : State) (d r : RegNum) (imm5 : BitVec 5) (imm16 : BitVec 16),
    WritesReg 2 s (exec (.sll d r) s) d (readReg s d <<< ((readReg s r).toNat % 32))
    ∧ WritesReg 4 s (exec (.sll3 d r imm16) s) d (readReg s r <<< (imm16.toNat % 32))
    ∧ WritesReg 2 s (exec (.slli d imm5) s) d (readReg s d <<< imm5.toNat)
    ∧ WritesReg 2 s (exec (.sra d r) s) d (BitVec.ofInt 32 ((readReg s d).toInt / 2 ^ ((readReg s r).toNat % 32)))
    ∧ WritesReg 4 s (exec (.sra3 d r imm16) s) d (BitVec.ofInt 32 ((readReg s r).toInt / 2 ^ (imm16.toNat % 32)))
    ∧ WritesReg 2 s (exec (.srai d imm5) s) d (BitVec.ofInt 32 ((readReg s d).toInt / 2 ^ imm5.toNat))
    ∧ WritesReg 2 s (exec (.srl d r) s) d (BitVec.ofNat 32 ((readReg s d).toNat / 2 ^ ((readReg s r).toNat % 32)))
    ∧ WritesReg 4 s (exec (.srl3 d r imm16) s) d (BitVec.ofNat 32 ((readReg s r).toNat / 2 ^ (imm16.toNat % 32)))
    ∧ WritesReg 2 s (exec (.srli d imm5) s) d (BitVec.ofNat 32 ((readReg s d).toNat / 2 ^ imm5.toNat))

/-- The comparisons and BTST write C as their pages say, on signed or unsigned integers, and no register or memory. -/
def Obligations.CompareResults : Prop :=
  ∀ (s : State) (a b : RegNum) (imm16 : BitVec 16) (bitpos : BitVec 3),
    WritesCond 2 s (exec (.cmp a b) s) (decide ((readReg s a).toInt < (readReg s b).toInt))
    ∧ WritesCond 4 s (exec (.cmpi a imm16) s) (decide ((readReg s a).toInt < imm16.toInt))
    ∧ WritesCond 2 s (exec (.cmpu a b) s) (decide ((readReg s a).toNat < (readReg s b).toNat))
    ∧ WritesCond 4 s (exec (.cmpui a imm16) s) (decide ((readReg s a).toNat < (BitVec.ofInt 32 imm16.toInt).toNat))
    ∧ WritesCond 2 s (exec (.cmpeq a b) s) (decide (readReg s a = readReg s b))
    ∧ WritesCond 2 s (exec (.cmpz a) s) (decide ((readReg s a).toNat = 0))
    ∧ WritesCond 2 s (exec (.pcmpbz a) s) (decide (∃ k, k < 4 ∧ (readReg s a).toNat / 256 ^ k % 256 = 0))
    ∧ WritesCond 2 s (exec (.btst bitpos a) s) (decide ((readReg s a).toNat / 2 ^ (7 - bitpos.toNat) % 2 = 1))

/-- ADDV, ADDV3 and SUBV: the result modulo 2^32, and C set exactly when the exact signed result does not fit 32 bits
(that "overflow" on the pages means this is the reading R170 marks as derived). -/
def Obligations.OverflowArithmetic : Prop :=
  ∀ (s : State) (d r : RegNum) (imm16 : BitVec 16),
    RunsTo 2 { slots := [slotOf s d], cond := true } s (exec (.addv d r) s) (fun t =>
      readReg t d = readReg s d + readReg s r
      ∧ (psw_c t.psw = true ↔ (readReg t d).toInt ≠ (readReg s d).toInt + (readReg s r).toInt))
    ∧ RunsTo 4 { slots := [slotOf s d], cond := true } s (exec (.addv3 d r imm16) s) (fun t =>
      readReg t d = readReg s r + BitVec.ofInt 32 imm16.toInt
      ∧ (psw_c t.psw = true ↔ (readReg t d).toInt ≠ (readReg s r).toInt + imm16.toInt))
    ∧ RunsTo 2 { slots := [slotOf s d], cond := true } s (exec (.subv d r) s) (fun t =>
      readReg t d = readReg s d - readReg s r
      ∧ (psw_c t.psw = true ↔ (readReg t d).toInt ≠ (readReg s d).toInt - (readReg s r).toInt))

/-- ADDX and SUBX: the exact unsigned sum or difference with C in, kept modulo 2^32; C is its carry or borrow. -/
def Obligations.CarryArithmetic : Prop :=
  ∀ (s : State) (d r : RegNum),
    RunsTo 2 { slots := [slotOf s d], cond := true } s (exec (.addx d r) s) (fun t =>
      (readReg t d).toNat + (psw_c t.psw).toNat * 2 ^ 32
        = (readReg s d).toNat + (readReg s r).toNat + (psw_c s.psw).toNat)
    ∧ RunsTo 2 { slots := [slotOf s d], cond := true } s (exec (.subx d r) s) (fun t =>
      ((readReg t d).toNat : Int) - (psw_c t.psw).toNat * 2 ^ 32
        = (readReg s d).toNat - (readReg s r).toNat - (psw_c s.psw).toNat)

/-- MUL: the low word of the signed product; both accumulators are destroyed (nothing is said of their values; that both
are is the spec's decision D23, R53, log 22); nothing else changes. -/
def Obligations.MultiplyResult : Prop :=
  ∀ (s : State) (d r : RegNum),
    RunsTo 2 { slots := [slotOf s d], acc0 := true, acc1 := true, draws := true } s (exec (.mul d r) s)
      (fun t => readReg t d = BitVec.ofInt 32 ((readReg s d).toInt * (readReg s r).toInt))

/-- DIV and REM: quotient toward zero, remainder with the sign of the dividend; a zero divisor leaves everything; on the one
overflow the instruction completes and nothing is said of the destination (R214; the free value is the spec's decision D22, log 23). -/
def Obligations.SignedDivision : Prop :=
  ∀ (s : State) (d r : RegNum),
    (readReg s r = 0 →
      RunsTo 4 {} s (exec (.div d r) s) (fun _ => True) ∧ RunsTo 4 {} s (exec (.rem d r) s) (fun _ => True))
    ∧ (readReg s d = 0x80000000 → readReg s r = 0xFFFFFFFF →
      RunsTo 4 { slots := [slotOf s d], draws := true } s (exec (.div d r) s) (fun _ => True)
      ∧ RunsTo 4 { slots := [slotOf s d], draws := true } s (exec (.rem d r) s) (fun _ => True))
    ∧ (readReg s r ≠ 0 → ¬ (readReg s d = 0x80000000 ∧ readReg s r = 0xFFFFFFFF) →
      RunsTo 4 { slots := [slotOf s d] } s (exec (.div d r) s)
        (fun t => (readReg t d).toInt = (readReg s d).toInt.tdiv (readReg s r).toInt)
      ∧ RunsTo 4 { slots := [slotOf s d] } s (exec (.rem d r) s)
        (fun t => (readReg t d).toInt = (readReg s d).toInt - (readReg s r).toInt * (readReg s d).toInt.tdiv (readReg s r).toInt))

/-- DIVB, DIVH, REMB and REMH: the dividend is the sign-extended low byte or halfword, the divisor the whole register; a zero
divisor leaves everything (R214). That the remainder of REMB and REMH has the sign of the dividend is the spec's own resolution of a
conflict (`90_conflicts.md` C1, R209, R210: their pages print the sign of the divisor). -/
def Obligations.NarrowSignedDivision : Prop :=
  ∀ (s : State) (d r : RegNum),
    (readReg s r = 0 →
      RunsTo 4 {} s (exec (.divb d r) s) (fun _ => True) ∧ RunsTo 4 {} s (exec (.divh d r) s) (fun _ => True)
      ∧ RunsTo 4 {} s (exec (.remb d r) s) (fun _ => True) ∧ RunsTo 4 {} s (exec (.remh d r) s) (fun _ => True))
    ∧ (readReg s r ≠ 0 →
      RunsTo 4 { slots := [slotOf s d] } s (exec (.divb d r) s)
        (fun t => (readReg t d).toInt = ((readReg s d).setWidth 8).toInt.tdiv (readReg s r).toInt)
      ∧ RunsTo 4 { slots := [slotOf s d] } s (exec (.divh d r) s)
        (fun t => (readReg t d).toInt = ((readReg s d).setWidth 16).toInt.tdiv (readReg s r).toInt)
      ∧ RunsTo 4 { slots := [slotOf s d] } s (exec (.remb d r) s)
        (fun t => (readReg t d).toInt = ((readReg s d).setWidth 8).toInt.tmod (readReg s r).toInt)
      ∧ RunsTo 4 { slots := [slotOf s d] } s (exec (.remh d r) s)
        (fun t => (readReg t d).toInt = ((readReg s d).setWidth 16).toInt.tmod (readReg s r).toInt))

/-- The six unsigned divisions: dividend narrowed by zero extension, divisor the whole register; a zero divisor leaves
everything (R214). -/
def Obligations.UnsignedDivision : Prop :=
  ∀ (s : State) (d r : RegNum),
    (readReg s r = 0 → ∀ i ∈ [Instr.divu d r, .divub d r, .divuh d r, .remu d r, .remub d r, .remuh d r],
      RunsTo 4 {} s (exec i s) (fun _ => True))
    ∧ (readReg s r ≠ 0 →
      WritesReg 4 s (exec (.divu d r) s) d (BitVec.ofNat 32 ((readReg s d).toNat / (readReg s r).toNat))
      ∧ WritesReg 4 s (exec (.divub d r) s) d (BitVec.ofNat 32 ((readReg s d).toNat % 2 ^ 8 / (readReg s r).toNat))
      ∧ WritesReg 4 s (exec (.divuh d r) s) d (BitVec.ofNat 32 ((readReg s d).toNat % 2 ^ 16 / (readReg s r).toNat))
      ∧ WritesReg 4 s (exec (.remu d r) s) d (BitVec.ofNat 32 ((readReg s d).toNat % (readReg s r).toNat))
      ∧ WritesReg 4 s (exec (.remub d r) s) d (BitVec.ofNat 32 ((readReg s d).toNat % 2 ^ 8 % (readReg s r).toNat))
      ∧ WritesReg 4 s (exec (.remuh d r) s) d (BitVec.ofNat 32 ((readReg s d).toNat % 2 ^ 16 % (readReg s r).toNat)))

/-! ### Memory -/

/-- A word or halfword is made of the bytes at its addresses, the most significant at the lowest (R72; the byte order is the
spec's default D1, log 1). -/
def Obligations.BigEndianAccess : Prop :=
  ∀ (m : Memory) (a : Word) (v : Word) (h : Half), Memory.wf m = true →
    (readWord m a).toNat = (readByte m a).toNat * 2 ^ 24 + (readByte m (a + 1)).toNat * 2 ^ 16
      + (readByte m (a + 2)).toNat * 2 ^ 8 + (readByte m (a + 3)).toNat
    ∧ (readHalf m a).toNat = (readByte m a).toNat * 2 ^ 8 + (readByte m (a + 1)).toNat
    ∧ (readByte (writeBytes m a (wordBytes v)) a).toNat = v.toNat / 2 ^ 24
    ∧ (readByte (writeBytes m a (wordBytes v)) (a + 1)).toNat = v.toNat / 2 ^ 16 % 2 ^ 8
    ∧ (readByte (writeBytes m a (wordBytes v)) (a + 2)).toNat = v.toNat / 2 ^ 8 % 2 ^ 8
    ∧ (readByte (writeBytes m a (wordBytes v)) (a + 3)).toNat = v.toNat % 2 ^ 8
    ∧ (readByte (writeBytes m a (halfBytes h)) a).toNat = h.toNat / 2 ^ 8
    ∧ (readByte (writeBytes m a (halfBytes h)) (a + 1)).toNat = h.toNat % 2 ^ 8

/-- Every load, where the access is aligned and allowed. From memory: the register, extended as its page says; LOCK also sets the
LOCK bit; `LD Rdest,@Rsrc+` reads at the register before it is incremented by 4, and the same register twice is refused (R151, D28,
log 13). From a device region: one read is issued (R85) and the register receives the low bytes of the device's next answer, extended
in the same way; with no answer given the value is left open (log 7). Nothing else changes. -/
def Obligations.LoadResults : Prop :=
  ∀ (s : State) (d r : RegNum) (disp16 : BitVec 16),
    (Accessible .load 4 (readReg s r) s → WritesReg 2 s (exec (.ldInd d r) s) d (readWord s.mem (readReg s r)))
    ∧ (Accessible .load 4 (readReg s r + disp16.signExtend 32) s →
      WritesReg 4 s (exec (.ldDisp d disp16 r) s) d (readWord s.mem (readReg s r + disp16.signExtend 32)))
    ∧ (Accessible .load 1 (readReg s r) s →
      WritesReg 2 s (exec (.ldbInd d r) s) d (BitVec.ofInt 32 (readByte s.mem (readReg s r)).toInt)
      ∧ WritesReg 2 s (exec (.ldubInd d r) s) d (BitVec.ofNat 32 (readByte s.mem (readReg s r)).toNat))
    ∧ (Accessible .load 1 (readReg s r + disp16.signExtend 32) s →
      WritesReg 4 s (exec (.ldbDisp d disp16 r) s) d (BitVec.ofInt 32 (readByte s.mem (readReg s r + disp16.signExtend 32)).toInt)
      ∧ WritesReg 4 s (exec (.ldubDisp d disp16 r) s) d
        (BitVec.ofNat 32 (readByte s.mem (readReg s r + disp16.signExtend 32)).toNat))
    ∧ (Accessible .load 2 (readReg s r) s →
      WritesReg 2 s (exec (.ldhInd d r) s) d (BitVec.ofInt 32 (readHalf s.mem (readReg s r)).toInt)
      ∧ WritesReg 2 s (exec (.lduhInd d r) s) d (BitVec.ofNat 32 (readHalf s.mem (readReg s r)).toNat))
    ∧ (Accessible .load 2 (readReg s r + disp16.signExtend 32) s →
      WritesReg 4 s (exec (.ldhDisp d disp16 r) s) d (BitVec.ofInt 32 (readHalf s.mem (readReg s r + disp16.signExtend 32)).toInt)
      ∧ WritesReg 4 s (exec (.lduhDisp d disp16 r) s) d
        (BitVec.ofNat 32 (readHalf s.mem (readReg s r + disp16.signExtend 32)).toNat))
    ∧ (Accessible .load 4 (readReg s r) s →
      RunsTo 2 { slots := [slotOf s d], lock := true } s (exec (.lock d r) s)
        (fun t => readReg t d = readWord s.mem (readReg s r) ∧ t.lock = true))
    ∧ (d ≠ r → Accessible .load 4 (readReg s r) s →
      RunsTo 2 { slots := [slotOf s d, slotOf s r] } s (exec (.ldPost d r) s)
        (fun t => readReg t d = readWord s.mem (readReg s r) ∧ readReg t r = readReg s r + 4))
    ∧ (d = r → exec (.ldPost d r) s = .refused .sameRegisterUpdate)
    ∧ (∀ (i : Instr) (len : Word) (n : Nat) (a : Word) (ext : Word → Word),
      (i, len, n, a, ext) ∈ [(Instr.ldInd d r, (2 : Word), 4, readReg s r, fun v => v),
        (.ldDisp d disp16 r, 4, 4, readReg s r + disp16.signExtend 32, fun v => v),
        (.ldbInd d r, 2, 1, readReg s r, fun v => (v.setWidth 8).signExtend 32),
        (.ldbDisp d disp16 r, 4, 1, readReg s r + disp16.signExtend 32, fun v => (v.setWidth 8).signExtend 32),
        (.ldubInd d r, 2, 1, readReg s r, fun v => v &&& 0xFF),
        (.ldubDisp d disp16 r, 4, 1, readReg s r + disp16.signExtend 32, fun v => v &&& 0xFF),
        (.ldhInd d r, 2, 2, readReg s r, fun v => (v.setWidth 16).signExtend 32),
        (.ldhDisp d disp16 r, 4, 2, readReg s r + disp16.signExtend 32, fun v => (v.setWidth 16).signExtend 32),
        (.lduhInd d r, 2, 2, readReg s r, fun v => v &&& 0xFFFF),
        (.lduhDisp d disp16 r, 4, 2, readReg s r + disp16.signExtend 32, fun v => v &&& 0xFFFF)]
      → ReachesDevice .load n a s →
        ReadsDevice len { slots := [slotOf s d] } n a s (exec i s) (fun t => ∀ v ∈ s.deviceAnswers.head?, readReg t d = ext v))
    ∧ (ReachesDevice .load 4 (readReg s r) s →
      ReadsDevice 2 { slots := [slotOf s d], lock := true } 4 (readReg s r) s (exec (.lock d r) s)
        (fun t => t.lock = true ∧ ∀ v ∈ s.deviceAnswers.head?, readReg t d = v))
    ∧ (d ≠ r → ReachesDevice .load 4 (readReg s r) s →
      ReadsDevice 2 { slots := [slotOf s d, slotOf s r] } 4 (readReg s r) s (exec (.ldPost d r) s)
        (fun t => readReg t r = readReg s r + 4 ∧ ∀ v ∈ s.deviceAnswers.head?, readReg t d = v))

/-- Every store without update, where the access is aligned and allowed. To memory: the stored bytes read back as the register's low
part, and every other byte of memory, every register and every flag is unchanged. To a device region: one write of these bytes is
issued (R85, log 7), and no byte of memory changes. UNLOCK stores only when the LOCK bit is 1, and clears it; with the bit 0 it
completes at any address (R150, D31, log 28). -/
def Obligations.StoreResults : Prop :=
  ∀ (s : State) (v p : RegNum) (disp16 : BitVec 16), Memory.wf s.mem = true →
    (Accessible .store 4 (readReg s p) s →
      RunsTo 2 { bytes := byteRange (readReg s p) 4 } s (exec (.stInd v p) s)
        (fun t => readWord t.mem (readReg s p) = readReg s v))
    ∧ (Accessible .store 4 (readReg s p + disp16.signExtend 32) s →
      RunsTo 4 { bytes := byteRange (readReg s p + disp16.signExtend 32) 4 } s (exec (.stDisp v disp16 p) s)
        (fun t => readWord t.mem (readReg s p + disp16.signExtend 32) = readReg s v))
    ∧ (Accessible .store 1 (readReg s p) s →
      RunsTo 2 { bytes := [readReg s p] } s (exec (.stbInd v p) s)
        (fun t => readByte t.mem (readReg s p) = (readReg s v).setWidth 8))
    ∧ (Accessible .store 1 (readReg s p + disp16.signExtend 32) s →
      RunsTo 4 { bytes := [readReg s p + disp16.signExtend 32] } s (exec (.stbDisp v disp16 p) s)
        (fun t => readByte t.mem (readReg s p + disp16.signExtend 32) = (readReg s v).setWidth 8))
    ∧ (Accessible .store 2 (readReg s p) s →
      RunsTo 2 { bytes := byteRange (readReg s p) 2 } s (exec (.sthInd v p) s)
        (fun t => readHalf t.mem (readReg s p) = (readReg s v).setWidth 16))
    ∧ (Accessible .store 2 (readReg s p + disp16.signExtend 32) s →
      RunsTo 4 { bytes := byteRange (readReg s p + disp16.signExtend 32) 2 } s (exec (.sthDisp v disp16 p) s)
        (fun t => readHalf t.mem (readReg s p + disp16.signExtend 32) = (readReg s v).setWidth 16))
    ∧ (s.lock = true → Accessible .store 4 (readReg s p) s →
      RunsTo 2 { lock := true, bytes := byteRange (readReg s p) 4 } s (exec (.unlock v p) s)
        (fun t => t.lock = false ∧ readWord t.mem (readReg s p) = readReg s v))
    ∧ (s.lock = false → RunsTo 2 { lock := true } s (exec (.unlock v p) s) (fun t => t.lock = false))
    ∧ (∀ (i : Instr) (len : Word) (a : Word) (bytes : List Byte),
      (i, len, a, bytes) ∈ [(Instr.stInd v p, (2 : Word), readReg s p, wordBytes (readReg s v)),
        (.stDisp v disp16 p, 4, readReg s p + disp16.signExtend 32, wordBytes (readReg s v)),
        (.sthInd v p, 2, readReg s p, halfBytes ((readReg s v).setWidth 16)),
        (.sthDisp v disp16 p, 4, readReg s p + disp16.signExtend 32, halfBytes ((readReg s v).setWidth 16)),
        (.stbInd v p, 2, readReg s p, [(readReg s v).setWidth 8]),
        (.stbDisp v disp16 p, 4, readReg s p + disp16.signExtend 32, [(readReg s v).setWidth 8])]
      → ReachesDevice .store bytes.length a s → WritesDevice len {} a bytes s (exec i s) (fun _ => True))
    ∧ (s.lock = true → ReachesDevice .store 4 (readReg s p) s →
      WritesDevice 2 { lock := true } (readReg s p) (wordBytes (readReg s v)) s (exec (.unlock v p) s) (fun t => t.lock = false))

/-- The stores that update their address register: `ST @+R` and `ST @-R` store at the updated value and refuse the same register
twice (D28, log 13); `STB @R+` and `STH @R+` store at the value before the update, the same register allowed (R148, R149, R151). In
a device region the same bytes are issued as one write (R85, log 7). -/
def Obligations.StoreUpdateResults : Prop :=
  ∀ (s : State) (v p : RegNum), Memory.wf s.mem = true →
    (v ≠ p → Accessible .store 4 (readReg s p + 4) s →
      RunsTo 2 { slots := [slotOf s p], bytes := byteRange (readReg s p + 4) 4 } s (exec (.stPreInc v p) s)
        (fun t => readReg t p = readReg s p + 4 ∧ readWord t.mem (readReg s p + 4) = readReg s v))
    ∧ (v ≠ p → Accessible .store 4 (readReg s p - 4) s →
      RunsTo 2 { slots := [slotOf s p], bytes := byteRange (readReg s p - 4) 4 } s (exec (.stPreDec v p) s)
        (fun t => readReg t p = readReg s p - 4 ∧ readWord t.mem (readReg s p - 4) = readReg s v))
    ∧ (v = p → exec (.stPreInc v p) s = .refused .sameRegisterUpdate ∧ exec (.stPreDec v p) s = .refused .sameRegisterUpdate)
    ∧ (Accessible .store 1 (readReg s p) s →
      RunsTo 2 { slots := [slotOf s p], bytes := [readReg s p] } s (exec (.stbPost v p) s)
        (fun t => readReg t p = readReg s p + 1 ∧ readByte t.mem (readReg s p) = (readReg s v).setWidth 8))
    ∧ (Accessible .store 2 (readReg s p) s →
      RunsTo 2 { slots := [slotOf s p], bytes := byteRange (readReg s p) 2 } s (exec (.sthPost v p) s)
        (fun t => readReg t p = readReg s p + 2 ∧ readHalf t.mem (readReg s p) = (readReg s v).setWidth 16))
    ∧ (∀ (i : Instr) (a : Word) (new : Word) (bytes : List Byte),
      (i, a, new, bytes) ∈ [(Instr.stbPost v p, readReg s p, readReg s p + 1, [(readReg s v).setWidth 8]),
        (.sthPost v p, readReg s p, readReg s p + 2, halfBytes ((readReg s v).setWidth 16))]
        ∨ (v ≠ p ∧ (i, a, new, bytes) ∈ [(Instr.stPreInc v p, readReg s p + 4, readReg s p + 4, wordBytes (readReg s v)),
          (.stPreDec v p, readReg s p - 4, readReg s p - 4, wordBytes (readReg s v))])
      → ReachesDevice .store bytes.length a s →
        WritesDevice 2 { slots := [slotOf s p] } a bytes s (exec i s) (fun t => readReg t p = new))

/-- A misaligned word or halfword access raises AE with no effect at all: no register, no byte of memory, no LOCK bit changes; BPC is
what `EIT_BPC_POLICY` says, by default the instruction's own address (R74, R360, R354; the default is the spec's decision D10,
log 16). -/
def Obligations.MisalignedRaisesAe : Prop :=
  ∀ (s : State) (v p : RegNum) (disp16 : BitVec 16),
    ((readReg s p).toNat % 4 ≠ 0 → ∀ i ∈ [Instr.ldInd v p, .lock v p, .stInd v p], Enters .ae 2 s (exec i s))
    ∧ ((readReg s p + disp16.signExtend 32).toNat % 4 ≠ 0 →
      ∀ i ∈ [Instr.ldDisp v disp16 p, .stDisp v disp16 p], Enters .ae 4 s (exec i s))
    ∧ ((readReg s p).toNat % 4 ≠ 0 → v ≠ p →
      ∀ i ∈ [Instr.ldPost v p, .stPreInc v p, .stPreDec v p], Enters .ae 2 s (exec i s))
    ∧ ((readReg s p).toNat % 4 ≠ 0 → s.lock = true → Enters .ae 2 s (exec (.unlock v p) s))
    ∧ ((readReg s p).toNat % 2 ≠ 0 →
      ∀ i ∈ [Instr.ldhInd v p, .lduhInd v p, .sthInd v p, .sthPost v p], Enters .ae 2 s (exec i s))
    ∧ ((readReg s p + disp16.signExtend 32).toNat % 2 ≠ 0 →
      ∀ i ∈ [Instr.ldhDisp v disp16 p, .lduhDisp v disp16 p, .sthDisp v disp16 p], Enters .ae 4 s (exec i s))

/-- BSET and BCLR change exactly bit `7 - bitpos` of the byte at the effective address, at any alignment; C, every register and
every other byte are unchanged (that BSET leaves C is the inference R262 marks, log 37). On a device they issue one read and one
write of the device's answer with that bit changed (R84, R85, log 7). -/
def Obligations.BitMemoryResults : Prop :=
  ∀ (s : State) (r : RegNum) (disp16 : BitVec 16) (bitpos : BitVec 3), Memory.wf s.mem = true →
    (Accessible .load 1 (readReg s r + disp16.signExtend 32) s → Accessible .store 1 (readReg s r + disp16.signExtend 32) s →
      RunsTo 4 { bytes := [readReg s r + disp16.signExtend 32] } s (exec (.bset bitpos disp16 r) s) (fun t =>
        ∀ i, i < 8 → (readByte t.mem (readReg s r + disp16.signExtend 32)).getLsbD i
          = (decide (i = 7 - bitpos.toNat) || (readByte s.mem (readReg s r + disp16.signExtend 32)).getLsbD i))
      ∧ RunsTo 4 { bytes := [readReg s r + disp16.signExtend 32] } s (exec (.bclr bitpos disp16 r) s) (fun t =>
        ∀ i, i < 8 → (readByte t.mem (readReg s r + disp16.signExtend 32)).getLsbD i
          = (!decide (i = 7 - bitpos.toNat) && (readByte s.mem (readReg s r + disp16.signExtend 32)).getLsbD i)))
    ∧ (ReachesDevice .load 1 (readReg s r + disp16.signExtend 32) s →
      ReachesDevice .store 1 (readReg s r + disp16.signExtend 32) s →
      ∀ (i : Instr) (new : Bool), (i, new) ∈ [(Instr.bset bitpos disp16 r, true), (.bclr bitpos disp16 r, false)] →
        RunsTo 4 { device := true, draws := s.deviceAnswers.isEmpty } s (exec i s) (fun t =>
          t.deviceAnswers = s.deviceAnswers.drop 1
          ∧ ∃ b : Byte, t.deviceAccesses = s.deviceAccesses ++ [.read (readReg s r + disp16.signExtend 32) 1,
              .write (readReg s r + disp16.signExtend 32) [b]]
            ∧ b.getLsbD (7 - bitpos.toNat) = new
            ∧ ∀ v ∈ s.deviceAnswers.head?, ∀ j, j < 8 → j ≠ 7 - bitpos.toNat → b.getLsbD j = v.getLsbD j))

/-- A load returns the word the latest earlier store put there (R82; that every access takes effect at once is the spec's decision D2,
log 31). -/
def Obligations.StoreThenLoadReturnsValue : Prop :=
  ∀ (s t : State) (v p d : RegNum), Memory.wf s.mem = true → Accessible .store 4 (readReg s p) s
    → Accessible .load 4 (readReg s p) s → exec (.stInd v p) s = .next t
    → WritesReg 2 t (exec (.ldInd d p) t) d (readReg s v)

/-- Nothing but the stores, UNLOCK, BSET and BCLR changes memory: no step and no pair whose instructions are all others, no
interrupt, no exception and no reset (R76; that reset keeps memory is the model's choice, log 18). -/
def Obligations.OnlyStoresWriteMemory : Prop :=
  (∀ (is : List Instr) (len : Word) (s t : State), StepOf is len s (.next t) → (∀ i ∈ is, memoryWriter i = false) →
    t.mem = s.mem ∧ t.written = s.written)
  ∧ (∀ s t : State, step s = .next t → (∀ i ∈ unitInstrs (fetchUnit s), memoryWriter i = false) → t.mem = s.mem)

/-- A word just stored is refused as an instruction (R90, R400; refusing is the spec's decision D3, log 6). -/
def Obligations.StoredWordIsNotExecuted : Prop :=
  ∀ (s t : State) (v p : RegNum), Accessible .store 4 (readReg s p) s → exec (.stInd v p) s = .next t
    → accessStop t.platform .fetch (readReg s p) 4 = none → t.resetRequest = false
    → pendingEvent { t with pc := readReg s p } = none
    → outsideAccess t.platform.userFetch { t with pc := readReg s p } (readReg s p) = none
    → step { t with pc := readReg s p } = .refused (.selfModifiedCode (readReg s p))

/-! ### Branches -/

/-- The twelve pc-relative branches with 8- or 24-bit displacement: the target counts words from the word that holds the branch;
R14 receives the word after it when the branch links and is taken; a branch not taken goes on in order (R230, R231). -/
def Obligations.PcRelativeBranches : Prop :=
  ∀ (s : State) (d8 : BitVec 8) (d24 : BitVec 24),
    JumpsTo (relTarget s.pc d8) {} s (exec (.bra8 d8) s) (fun _ => True)
    ∧ JumpsTo (relTarget s.pc d24) {} s (exec (.bra24 d24) s) (fun _ => True)
    ∧ JumpsTo (relTarget s.pc d8) { slots := [slotOf s 14] } s (exec (.bl8 d8) s) (fun t => readReg t 14 = wordFloor s.pc + 4)
    ∧ JumpsTo (relTarget s.pc d24) { slots := [slotOf s 14] } s (exec (.bl24 d24) s) (fun t => readReg t 14 = wordFloor s.pc + 4)
    ∧ (psw_c s.psw = true →
      JumpsTo (relTarget s.pc d8) {} s (exec (.bc8 d8) s) (fun _ => True)
      ∧ JumpsTo (relTarget s.pc d24) {} s (exec (.bc24 d24) s) (fun _ => True)
      ∧ JumpsTo (relTarget s.pc d8) { slots := [slotOf s 14] } s (exec (.bcl8 d8) s) (fun t => readReg t 14 = wordFloor s.pc + 4)
      ∧ JumpsTo (relTarget s.pc d24) { slots := [slotOf s 14] } s (exec (.bcl24 d24) s)
        (fun t => readReg t 14 = wordFloor s.pc + 4)
      ∧ RunsTo 2 {} s (exec (.bnc8 d8) s) (fun _ => True) ∧ RunsTo 4 {} s (exec (.bnc24 d24) s) (fun _ => True)
      ∧ RunsTo 2 {} s (exec (.bncl8 d8) s) (fun _ => True) ∧ RunsTo 4 {} s (exec (.bncl24 d24) s) (fun _ => True))
    ∧ (psw_c s.psw = false →
      JumpsTo (relTarget s.pc d8) {} s (exec (.bnc8 d8) s) (fun _ => True)
      ∧ JumpsTo (relTarget s.pc d24) {} s (exec (.bnc24 d24) s) (fun _ => True)
      ∧ JumpsTo (relTarget s.pc d8) { slots := [slotOf s 14] } s (exec (.bncl8 d8) s) (fun t => readReg t 14 = wordFloor s.pc + 4)
      ∧ JumpsTo (relTarget s.pc d24) { slots := [slotOf s 14] } s (exec (.bncl24 d24) s)
        (fun t => readReg t 14 = wordFloor s.pc + 4)
      ∧ RunsTo 2 {} s (exec (.bc8 d8) s) (fun _ => True) ∧ RunsTo 4 {} s (exec (.bc24 d24) s) (fun _ => True)
      ∧ RunsTo 2 {} s (exec (.bcl8 d8) s) (fun _ => True) ∧ RunsTo 4 {} s (exec (.bcl24 d24) s) (fun _ => True))

/-- The eight compare-and-branch instructions: taken exactly when the condition on the registers holds, C and the registers
unchanged (R238 to R245). -/
def Obligations.CompareAndBranch : Prop :=
  ∀ (s : State) (a b : RegNum) (d : BitVec 16) (i : Instr) (c : Bool),
    (i, c) ∈ [(Instr.beq a b d, decide (readReg s a = readReg s b)), (.bne a b d, decide (readReg s a ≠ readReg s b)),
      (.beqz a d, decide ((readReg s a).toInt = 0)), (.bnez a d, decide ((readReg s a).toInt ≠ 0)),
      (.bltz a d, decide ((readReg s a).toInt < 0)), (.bgez a d, decide (0 ≤ (readReg s a).toInt)),
      (.blez a d, decide ((readReg s a).toInt ≤ 0)), (.bgtz a d, decide (0 < (readReg s a).toInt))]
    → (c = true → JumpsTo (relTarget s.pc d) {} s (exec i s) (fun _ => True))
      ∧ (c = false → RunsTo 4 {} s (exec i s) (fun _ => True))

/-- The register jumps: the two low bits of the register are ignored, JL writes R14 and jumps by the register before that write
(R230, R246 to R249; the order for `JL R14` is DEDUCED from R12, log 29). -/
def Obligations.RegisterJumps : Prop :=
  ∀ (s : State) (r : RegNum),
    JumpsTo (wordFloor (readReg s r)) {} s (exec (.jmp r) s) (fun _ => True)
    ∧ JumpsTo (wordFloor (readReg s r)) { slots := [slotOf s 14] } s (exec (.jl r) s)
      (fun t => readReg t 14 = wordFloor s.pc + 4)
    ∧ (psw_c s.psw = true → JumpsTo (wordFloor (readReg s r)) {} s (exec (.jc r) s) (fun _ => True)
      ∧ RunsTo 2 {} s (exec (.jnc r) s) (fun _ => True))
    ∧ (psw_c s.psw = false → JumpsTo (wordFloor (readReg s r)) {} s (exec (.jnc r) s) (fun _ => True)
      ∧ RunsTo 2 {} s (exec (.jc r) s) (fun _ => True))

/-- NOP does nothing. SC and SNC alone do nothing in the lower halfword and are refused in the upper one (R250 to R252; both
placements are the spec's decision D18). -/
def Obligations.NopAndLoneSkips : Prop :=
  ∀ s : State,
    RunsTo 2 {} s (exec .nop s) (fun _ => True)
    ∧ (s.pc.getLsbD 1 = true → RunsTo 2 {} s (exec .sc s) (fun _ => True) ∧ RunsTo 2 {} s (exec .snc s) (fun _ => True))
    ∧ (s.pc.getLsbD 1 = false → exec .sc s = .refused .skipWithoutPair ∧ exec .snc s = .refused .skipWithoutPair)

/-- Every control transfer but RTE goes to a word boundary: after any step, single instruction or pair without RTE the pc is the next
in order or word-aligned (R55; exceptions and interrupts enter at word boundaries too, R351). -/
def Obligations.TransferTargetsAreAligned : Prop :=
  ∀ (is : List Instr) (len : Word) (s t : State), StepOf is len s (.next t) → .rte ∉ is →
    t.pc = s.pc + len ∨ t.pc.toNat % 4 = 0

/-! ### Control registers, modes, EIT -/

/-- MVFC reads each control register in either mode; EVB reads as AT, its writable bits and zeros; a reserved number does
what `RESERVED_CR_POLICY` says: refused, an EIT event, or a constant (R164, R23, R31; the parameter and its default, the refusal, are
the spec's decision D14, log 10; C at bit [0] of CBR is from general knowledge, R29, log 27). -/
def Obligations.MoveFromControl : Prop :=
  ∀ (s : State) (d cr : RegNum),
    WritesReg 2 s (exec (.mvfc d 0) s) d s.psw
    ∧ WritesReg 2 s (exec (.mvfc d 1) s) d (if psw_c s.psw then 1 else 0)
    ∧ WritesReg 2 s (exec (.mvfc d 2) s) d s.spi
    ∧ WritesReg 2 s (exec (.mvfc d 3) s) d s.spu
    ∧ RunsTo 2 { slots := [slotOf s d] } s (exec (.mvfc d 5) s) (fun t => ∀ i, i < 32 → (readReg t d).getLsbD i
      = if i = 31 then s.platform.atBit else decide (16 ≤ i) && s.evb.getLsbD i)
    ∧ WritesReg 2 s (exec (.mvfc d 6) s) d s.bpc
    ∧ (cr = 4 ∨ 7 ≤ cr.toNat →
      (s.platform.reservedControl = .refused → exec (.mvfc d cr) s = .refused (.reservedControlRegister cr))
      ∧ (∀ ev, s.platform.reservedControl = .raises ev → Enters ev 2 s (exec (.mvfc d cr) s))
      ∧ (∀ v, s.platform.reservedControl = .constant v → WritesReg 2 s (exec (.mvfc d cr) s) d v))

/-- MVTC in supervisor mode, register by register (R165): the ten implemented bits of PSW, CBR ignored, SPI, SPU, the writable bits
of EVB once, BPC with bit [0] 0; what the spec's decisions D19 and D32 refuse is refused (logs 11, 12; dropping the reserved PSW
bits is D16, log 21); a reserved number does what `RESERVED_CR_POLICY` says: refused, an EIT event, or the write ignored (D14,
log 10). -/
def Obligations.MoveToControl : Prop :=
  ∀ (s : State) (r cr : RegNum), userMode s = false →
    (¬ ((readReg s r).getLsbD 3 = true ∧ s.pc.getLsbD 31 = true) →
      RunsTo 2 { psw := true } s (exec (.mvtc r 0) s) (fun t => t.psw = readReg s r &&& 0x0000CDCD))
    ∧ RunsTo 2 {} s (exec (.mvtc r 1) s) (fun _ => True)
    ∧ RunsTo 2 { slots := [.spi] } s (exec (.mvtc r 2) s) (fun t => t.spi = readReg s r)
    ∧ RunsTo 2 { slots := [.spu] } s (exec (.mvtc r 3) s) (fun t => t.spu = readReg s r)
    ∧ (s.evbWritten = false → RunsTo 2 { evb := true } s (exec (.mvtc r 5) s) (fun t =>
      t.evbWritten = true ∧ ∀ i, t.evb.getLsbD i = (decide (16 ≤ i ∧ i ≤ 30) && (readReg s r).getLsbD i)))
    ∧ RunsTo 2 { bpc := true } s (exec (.mvtc r 6) s) (fun t => t.bpc = readReg s r &&& 0xFFFFFFFE)
    ∧ (s.evbWritten = true → exec (.mvtc r 5) s = .refused .secondEvbWrite)
    ∧ ((readReg s r).getLsbD 3 = true → s.pc.getLsbD 31 = true → exec (.mvtc r 0) s = .refused .pmChangeOutsideUserSpace)
    ∧ (cr = 4 ∨ 7 ≤ cr.toNat →
      (s.platform.reservedControl = .refused → exec (.mvtc r cr) s = .refused (.reservedControlRegister cr))
      ∧ (∀ ev, s.platform.reservedControl = .raises ev → Enters ev 2 s (exec (.mvtc r cr) s))
      ∧ (∀ v, s.platform.reservedControl = .constant v → RunsTo 2 {} s (exec (.mvtc r cr) s) (fun _ => True)))

/-- SETPSW and CLRPSW in supervisor mode: the bits of PSW[7:0] that imm8 names, reserved ones never set; PSW[15:8] untouched (R263,
R264, R268; dropping reserved bits is the spec's decision D16). -/
def Obligations.SetAndClearPsw : Prop :=
  ∀ (s : State) (imm8 : BitVec 8), userMode s = false →
    (¬ (imm8.getLsbD 3 = true ∧ s.pc.getLsbD 31 = true) →
      RunsTo 2 { psw := true } s (exec (.setpsw imm8) s) (fun t => ∀ i, i < 32 → t.psw.getLsbD i
        = (!decide (i = 1 ∨ i = 4 ∨ i = 5) && (s.psw.getLsbD i || imm8.getLsbD i))))
    ∧ (imm8.getLsbD 3 = true → s.pc.getLsbD 31 = true → exec (.setpsw imm8) s = .refused .pmChangeOutsideUserSpace)
    ∧ RunsTo 2 { psw := true } s (exec (.clrpsw imm8) s) (fun t => ∀ i, i < 32 → t.psw.getLsbD i
        = (s.psw.getLsbD i && !imm8.getLsbD i))

/-- RTE, MVTC with any control register number, SETPSW and CLRPSW raise PIE in user mode and do nothing else (R362, R371; the entry
and its BPC are the spec's decisions D10 and D24, log 16). A load, store or fetch of user mode outside the user space does what
`USER_ACCESS_POLICY` says, before it is made: the platform's EIT event, or a stop (R79; that it is a parameter and by default allows
everything is the spec's decision D6, log 8). -/
def Obligations.PrivilegedInUserMode : Prop :=
  ∀ (s : State) (r p cr : RegNum) (imm8 : BitVec 8), userMode s = true →
    (∀ i ∈ [Instr.rte, .mvtc r cr, .setpsw imm8, .clrpsw imm8], Enters .pie 2 s (exec i s))
    ∧ ((readReg s p).getLsbD 31 = true → (readReg s p).toNat % 4 = 0 →
      ∀ i ∈ [Instr.ldInd r p, .lock r p, .stInd r p, .ldbInd r p, .ldubInd r p, .ldhInd r p, .lduhInd r p, .stbInd r p, .sthInd r p,
          .stbPost r p, .sthPost r p],
        (∀ ev, s.platform.userData = .raises ev → Enters ev 2 s (exec i s))
        ∧ (s.platform.userData = .refused → exec i s = .refused (.userAccess (readReg s p))))
    ∧ (s.pc.getLsbD 31 = true → s.resetRequest = false → pendingEvent s = none →
      (∀ ev, s.platform.userFetch = .raises ev → Enters ev 0 s (step s))
      ∧ (s.platform.userFetch = .refused → step s = .refused (.userAccess (wordFloor s.pc))))

/-- User mode cannot change SM, IE, PM, CE or the BPSW field except by entering EIT: every step, single instruction or pair that
completes in user mode either leaves every PSW bit but C, or is an EIT entry into supervisor mode, whose C is 0 but for a pair with
TRAP, where the partner may write C too (R371, R323). -/
def Obligations.UserModeKeepsPsw : Prop :=
  ∀ (is : List Instr) (len : Word) (s t : State), StepOf is len s (.next t) → userMode s = true →
    (∀ b, b ≠ 0 → t.psw.getLsbD b = s.psw.getLsbD b)
    ∨ (userMode t = false ∧ ∃ ev ret, (∀ b, b ≠ 0 → t.psw.getLsbD b = (enterEIT ev ret s).psw.getLsbD b)
        ∧ (is.length ≠ 2 → t.psw = (enterEIT ev ret s).psw) ∧ t.bpc = (enterEIT ev ret s).bpc ∧ t.pc = vectorAddress s ev)

/-- Only the writers of R28 change C: any step, single instruction or pair without one of them that completes leaves C, or is an EIT
entry. -/
def Obligations.OnlyListedInstructionsWriteC : Prop :=
  ∀ (is : List Instr) (len : Word) (s t : State), StepOf is len s (.next t) → (∀ i ∈ is, condWriter i = false) →
    psw_c t.psw = psw_c s.psw ∨ ∃ ev ret, t = enterEIT ev ret s

/-- EIT entry bit by bit (R350): the five bits are saved in the BPSW field, IE, PM, CE and C cleared, SM kept or cleared as the
platform's policy says, BPC even, the pc at the event's entry in the vector area; nothing else changes. For events other than TRAP
the sequence is the spec's decision D24 (log 16). -/
def Obligations.EitEntryState : Prop :=
  ∀ (s : State) (ev : Event) (ret : Word),
    Frame { psw := true, bpc := true } s (enterEIT ev ret s)
    ∧ psw_bsm (enterEIT ev ret s).psw = psw_sm s.psw ∧ psw_bie (enterEIT ev ret s).psw = psw_ie s.psw
    ∧ psw_bpm (enterEIT ev ret s).psw = psw_pm s.psw ∧ psw_bce (enterEIT ev ret s).psw = psw_ce s.psw
    ∧ psw_bc (enterEIT ev ret s).psw = psw_c s.psw
    ∧ psw_ie (enterEIT ev ret s).psw = false ∧ psw_pm (enterEIT ev ret s).psw = false
    ∧ psw_ce (enterEIT ev ret s).psw = false ∧ psw_c (enterEIT ev ret s).psw = false
    ∧ psw_sm (enterEIT ev ret s).psw = (!(eventEntry s.platform ev).clearsSM && psw_sm s.psw)
    ∧ (enterEIT ev ret s).psw &&& ~~~0x0000CDCD = 0
    ∧ (enterEIT ev ret s).bpc.toNat = ret.toNat / 2 * 2
    ∧ (enterEIT ev ret s).pc.toNat = (if s.platform.atBit then 2 ^ 31 else 0) + s.evb.toNat / 2 ^ 16 % 2 ^ 15 * 2 ^ 16
        + (eventEntry s.platform ev).index.toNat * 4

/-- TRAP enters EIT in either mode with BPC ← the next instruction in order, SM kept (R265). -/
def Obligations.TrapResult : Prop :=
  ∀ (s : State) (n : BitVec 4), s.pc.getLsbD 0 = false →
    ∃ t, exec (.trap n) s = .next t ∧ t.bpc = s.pc + 2 ∧ psw_sm t.psw = psw_sm s.psw ∧ psw_bsm t.psw = psw_sm s.psw
      ∧ psw_bie t.psw = psw_ie s.psw ∧ psw_bpm t.psw = psw_pm s.psw ∧ psw_bce t.psw = psw_ce s.psw ∧ psw_bc t.psw = psw_c s.psw
      ∧ psw_ie t.psw = false ∧ psw_pm t.psw = false ∧ psw_ce t.psw = false ∧ psw_c t.psw = false
      ∧ t.pc = vectorAddress s (.trap n) ∧ Frame { psw := true, bpc := true } s t

/-- RTE in supervisor mode: the five bits come back from the BPSW field, which keeps its value with BPC, and the pc is BPC made even
(R266, R355). -/
def Obligations.ReturnResult : Prop :=
  ∀ s : State, userMode s = false →
    JumpsTo (BitVec.ofNat 32 (s.bpc.toNat / 2 * 2)) { psw := true } s (exec .rte s) (fun t =>
      psw_sm t.psw = psw_bsm s.psw ∧ psw_ie t.psw = psw_bie s.psw ∧ psw_pm t.psw = psw_bpm s.psw
      ∧ psw_ce t.psw = psw_bce s.psw ∧ psw_c t.psw = psw_bc s.psw
      ∧ psw_bsm t.psw = psw_bsm s.psw ∧ psw_bie t.psw = psw_bie s.psw ∧ psw_bpm t.psw = psw_bpm s.psw
      ∧ psw_bce t.psw = psw_bce s.psw ∧ psw_bc t.psw = psw_bc s.psw)

/-- An RTE right after the entry of any EIT returns to the address saved, with SM, IE, PM, CE and C as they were (R355). -/
def Obligations.ReturnUndoesEntry : Prop :=
  ∀ (s : State) (ev : Event) (ret : Word), ret.getLsbD 0 = false →
    ∃ u, exec .rte (enterEIT ev ret s) = .next u ∧ u.pc = ret
      ∧ psw_sm u.psw = psw_sm s.psw ∧ psw_ie u.psw = psw_ie s.psw ∧ psw_pm u.psw = psw_pm s.psw
      ∧ psw_ce u.psw = psw_ce s.psw ∧ psw_c u.psw = psw_c s.psw ∧ Frame { psw := true, bpc := true } s u

/-- Distinct events enter at distinct addresses on a well-formed platform (R351, D8). -/
def Obligations.VectorsAreDistinct : Prop :=
  ∀ (s : State) (e1 e2 : Event), s.platform.wf = true
    → (∀ k, e1 = .ei k ∨ e2 = .ei k → k < s.platform.ei.length) → vectorAddress s e1 = vectorAddress s e2 → e1 = e2

/-- Interrupt acceptance at a step boundary (R344, R345, R347): the lowest pending source when IE = 1; CPI when CE = 1, a coprocessor
is present and no external interrupt is accepted, whatever IE is; with nothing enabled and asked for, what stands at the pc runs.
Choices of the spec that this states: acceptance at the step boundary (D25), the lowest source first (D11), the order and CPI on CE
alone (D29), all of log 17; the entry sequence of EI and CPI (D24) and their BPC (D10), log 16. -/
def Obligations.InterruptAcceptance : Prop :=
  ∀ (s : State) (k : Nat), s.resetRequest = false →
    (psw_ie s.psw = true → k < s.platform.ei.length → k ∈ s.eiPending → (∀ j, j < k → j ∉ s.eiPending) →
      Enters (.ei k) 0 s (step s))
    ∧ (psw_ie s.psw = false ∨ (∀ j ∈ s.eiPending, s.platform.ei.length ≤ j) → psw_ce s.psw = true → s.cpiPending = true →
      s.platform.coprocessors ≠ [] → Enters .cpi 0 s (step s))
    ∧ (psw_ie s.psw = false ∨ (∀ j ∈ s.eiPending, s.platform.ei.length ≤ j) →
      psw_ce s.psw = false ∨ s.cpiPending = false ∨ s.platform.coprocessors = [] →
      outsideAccess s.platform.userFetch s (fetchAddress s) = none → fetchStop s = none → step s = execUnit (fetchUnit s) s)

/-! ### DSP -/

/-- The five multiplications into an accumulator, as exact integers; the other accumulator and everything else unchanged (that
MULWU1 leaves A0 is the inference R276 marks). -/
def Obligations.DspMultiply : Prop :=
  ∀ (s : State) (a b : RegNum) (acc : AccNum),
    WritesAcc s (exec (.mulhi a b acc) s) acc (fun t => (accOf t acc).toInt = hiInt s a * hiInt s b * 2 ^ 16)
    ∧ WritesAcc s (exec (.mullo a b acc) s) acc (fun t => (accOf t acc).toInt = loInt s a * loInt s b * 2 ^ 16)
    ∧ WritesAcc s (exec (.mulwhi a b) s) 0 (fun t => t.acc0.toInt = regInt s a * hiInt s b)
    ∧ WritesAcc s (exec (.mulwlo a b) s) 0 (fun t => t.acc0.toInt = regInt s a * loInt s b)
    ∧ WritesAcc s (exec (.mulwu1 a b) s) 1 (fun t => t.acc1.toInt = regInt s a * uloInt s b)

/-- The seven multiply-accumulate instructions: the exact product added to (MSBLO: subtracted from) the accumulator modulo 2^56; the
other accumulator and everything else unchanged (R270; that MACWU1 leaves A0 is the inference R282 marks). -/
def Obligations.DspAccumulate : Prop :=
  ∀ (s : State) (a b : RegNum) (acc : AccNum),
    WritesAcc s (exec (.machi a b acc) s) acc
      (fun t => accOf t acc = BitVec.ofInt 56 ((accOf s acc).toInt + hiInt s a * hiInt s b * 2 ^ 16))
    ∧ WritesAcc s (exec (.maclo a b acc) s) acc
      (fun t => accOf t acc = BitVec.ofInt 56 ((accOf s acc).toInt + loInt s a * loInt s b * 2 ^ 16))
    ∧ WritesAcc s (exec (.macwhi a b) s) 0 (fun t => t.acc0 = BitVec.ofInt 56 (s.acc0.toInt + regInt s a * hiInt s b))
    ∧ WritesAcc s (exec (.macwlo a b) s) 0 (fun t => t.acc0 = BitVec.ofInt 56 (s.acc0.toInt + regInt s a * loInt s b))
    ∧ WritesAcc s (exec (.maclh1 a b) s) 1 (fun t => t.acc1 = BitVec.ofInt 56 (s.acc1.toInt + loInt s a * hiInt s b * 2 ^ 16))
    ∧ WritesAcc s (exec (.macwu1 a b) s) 1 (fun t => t.acc1 = BitVec.ofInt 56 (s.acc1.toInt + regInt s a * uloInt s b))
    ∧ WritesAcc s (exec (.msblo a b) s) 0 (fun t => t.acc0 = BitVec.ofInt 56 (s.acc0.toInt - loInt s a * loInt s b * 2 ^ 16))

/-- SADD, RAC and RACH on integers: the shifted sum, and rounding with saturation to a word or a halfword; the source accumulator
and everything else unchanged (R284 to R286). -/
def Obligations.DspSumAndRounding : Prop :=
  ∀ (s : State) (ad sa : AccNum) (imm1 : Nat),
    WritesAcc s (exec .sadd s) 0 (fun t => t.acc0 = BitVec.ofInt 56 (s.acc0.toInt + s.acc1.toInt / 2 ^ 16))
    ∧ (imm1 = 1 ∨ imm1 = 2 →
      WritesAcc s (exec (.rac ad sa imm1) s) ad (fun t => (accOf t ad).toInt
        = max (-(2 ^ 47)) (min 0x7FFFFFFF0000 (((accOf s sa).toInt * 2 ^ imm1 + 2 ^ 15) / 2 ^ 16 * 2 ^ 16)))
      ∧ WritesAcc s (exec (.rach ad sa imm1) s) ad (fun t => (accOf t ad).toInt
        = max (-(2 ^ 47)) (min 0x7FFF00000000 (((accOf s sa).toInt * 2 ^ imm1 + 2 ^ 31) / 2 ^ 32 * 2 ^ 32))))

/-- The accumulator moves: the high, middle and low words of the 64-bit view read, the high and low parts written with the rest of
the accumulator kept (R287 to R291). -/
def Obligations.AccumulatorMoves : Prop :=
  ∀ (s : State) (d : RegNum) (a : AccNum),
    WritesReg 2 s (exec (.mvfachi d a) s) d (BitVec.ofInt 32 ((accOf s a).toInt / 2 ^ 32))
    ∧ WritesReg 2 s (exec (.mvfacmi d a) s) d (BitVec.ofInt 32 ((accOf s a).toInt / 2 ^ 16))
    ∧ WritesReg 2 s (exec (.mvfaclo d a) s) d (BitVec.ofInt 32 (accOf s a).toInt)
    ∧ WritesAcc s (exec (.mvtachi d a) s) a
      (fun t => (accOf t a).toNat = (readReg s d).toNat % 2 ^ 24 * 2 ^ 32 + (accOf s a).toNat % 2 ^ 32)
    ∧ WritesAcc s (exec (.mvtaclo d a) s) a
      (fun t => (accOf t a).toNat = (accOf s a).toNat / 2 ^ 32 * 2 ^ 32 + (readReg s d).toNat)

/-- SATB and SATH: signed saturation to a byte and to a halfword (R292, R293; SATB's bounds are the spec's decision D33, log 25). -/
def Obligations.SaturationResults : Prop :=
  ∀ (s : State) (d r : RegNum),
    WritesReg 4 s (exec (.satb d r) s) d (BitVec.ofInt 32 (max (-128) (min 127 (readReg s r).toInt)))
    ∧ WritesReg 4 s (exec (.sath d r) s) d (BitVec.ofInt 32 (max (-32768) (min 32767 (readReg s r).toInt)))

/-! ### Coprocessor -/

/-- A coprocessor that is present and switched on receives exactly one request per instruction; MVFCP writes the value it answers to
its register (with no answer given the value is left open), MVTCP and OPECP change no core register. One that is absent or switched
off: CDE in either mode, no register written, no request sent (R301, R303 to R305, R363; the interface, the answers and the condition
of CDE are the spec's decision D12, log 19; the entry and its BPC D24 and D10, log 16). -/
def Obligations.CoprocessorResults : Prop :=
  ∀ (s : State) (r : RegNum) (cd cs : BitVec 4) (inst cpid : BitVec 12),
    (cpid ∈ s.platform.coprocessors → cpid ∉ s.copDisabled →
      RunsTo 4 { slots := [slotOf s r], cop := true, draws := s.copAnswers.isEmpty } s (exec (.mvfcp r cs inst cpid) s)
        (fun t => t.copRequests = s.copRequests ++ [.read cpid cs inst] ∧ t.copAnswers = s.copAnswers.drop 1
          ∧ ∀ v ∈ s.copAnswers.head?, readReg t r = v)
      ∧ RunsTo 4 { cop := true } s (exec (.mvtcp r cd inst cpid) s)
        (fun t => t.copRequests = s.copRequests ++ [.write cpid cd inst (readReg s r)] ∧ t.copAnswers = s.copAnswers)
      ∧ RunsTo 4 { cop := true } s (exec (.opecp cd cs inst cpid) s)
        (fun t => t.copRequests = s.copRequests ++ [.operate cpid cd cs inst] ∧ t.copAnswers = s.copAnswers))
    ∧ (cpid ∉ s.platform.coprocessors ∨ cpid ∈ s.copDisabled →
      ∀ i ∈ [Instr.mvfcp r cs inst cpid, .mvtcp r cd inst cpid, .opecp cd cs inst cpid], Enters .cde 4 s (exec i s))

/-! ### Parallel pairs -/

/-- Both halves of a pair read the state before it (R320), for every allowed pair whose halves write: storage and C that one half
alone writes hold what that half alone writes from the state before (`commit` of its effect, which is what `exec` of it does but for
the pc; TRAP, SC and SNC know that they stand in a pair); storage that both write is open (R322), C that both write is open (R323);
the PSW but for C, the other special registers, the LOCK bit, memory and the devices are the upper half's, an accumulator is its one
writer's; everything neither half writes is kept. Three instances follow: `MV Ra,Rb || MV Rc,Rd` (R321), a branch beside a
comparison, two comparisons. That a collision leaves only the colliding value open is the spec's decision D34 (log 24). -/
def Obligations.PairReadsStateBefore : Prop :=
  (∀ (s : State) (u l : Instr) (eu el : Effect), pairAllowed u l = true → action .pair u s = .writes eu → eu.cancels = false
    → action .pair l s = .writes el →
      (∃ len, exec l s = .next (commit el (s.pc + len) s))
      ∧ (u ≠ .sc → u ≠ .snc → (∀ n, u ≠ .trap n) → ∃ len, exec u s = .next (commit eu (s.pc + len) s))
      ∧ ∃ t tu tl, execPair u l s = .next t ∧ tu = commit eu (s.pc + 4) s ∧ tl = commit el (s.pc + 4) s
        ∧ (∀ sl, writesSlot el.regs sl = false → readSlot t sl = readSlot tu sl)
        ∧ (∀ sl, writesSlot eu.regs sl = false → readSlot t sl = readSlot tl sl)
        ∧ (el.cond = none → psw_c t.psw = psw_c tu.psw) ∧ (eu.cond = none → el.cond ≠ none → psw_c t.psw = psw_c tl.psw)
        ∧ (∀ b, b ≠ 0 → t.psw.getLsbD b = tu.psw.getLsbD b)
        ∧ t.evb = tu.evb ∧ t.evbWritten = tu.evbWritten ∧ t.bpc = tu.bpc ∧ t.lock = tu.lock
        ∧ t.mem = tu.mem ∧ t.written = tu.written
        ∧ t.deviceAccesses = tu.deviceAccesses ∧ t.deviceAnswers = tu.deviceAnswers
        ∧ t.copRequests = s.copRequests ∧ t.copAnswers = s.copAnswers
        ∧ t.acc0 = (if el.acc0.isSome then tl else tu).acc0 ∧ t.acc1 = (if el.acc1.isSome then tl else tu).acc1
        ∧ t.pc = tu.pc ∧ t.platform = s.platform ∧ t.resetRequest = s.resetRequest ∧ t.eiPending = s.eiPending
        ∧ t.cpiPending = s.cpiPending ∧ t.copDisabled = s.copDisabled
        ∧ (eu.draws = false → el.draws = false → (∀ sl, writesSlot eu.regs sl = false ∨ writesSlot el.regs sl = false)
          → (eu.cond = none ∨ el.cond = none) → t.draws = s.draws))
  ∧ ∀ (s : State) (a b c d : RegNum) (d8 : BitVec 8),
    (a ≠ c → RunsTo 4 { slots := [slotOf s a, slotOf s c] } s (execPair (.mv a b) (.mv c d) s)
      (fun t => readReg t a = readReg s b ∧ readReg t c = readReg s d))
    ∧ (a = c → RunsTo 4 { slots := [slotOf s a], draws := true } s (execPair (.mv a b) (.mv c d) s) (fun _ => True))
    ∧ (psw_c s.psw = true → JumpsTo (relTarget s.pc d8) { cond := true } s (execPair (.bc8 d8) (.cmp a b) s)
        (fun t => psw_c t.psw = decide ((readReg s a).toInt < (readReg s b).toInt)))
    ∧ (psw_c s.psw = false → RunsTo 4 { cond := true } s (execPair (.bc8 d8) (.cmp a b) s)
        (fun t => psw_c t.psw = decide ((readReg s a).toInt < (readReg s b).toInt)))
    ∧ RunsTo 4 { cond := true, draws := true } s (execPair (.cmp a b) (.cmpz c) s) (fun _ => True)

/-- A control transfer in the upper half and its partner execute together, for every partner and every 16-bit transfer: the
partner does what it does alone, on the state before the pair, and the transfer adds the pc and its own writes. A linking branch
that is taken writes R14, which is open where the partner writes it too (R231, R253, R322); one not taken leaves the partner's R14.
RTE gives SM, IE, PM and CE their backups and goes to BPC; TRAP saves them and C of the state before and puts the word after the
pair into BPC (R265, R266, R325); beside either, C is what the transfer makes it unless the partner writes C too, when it is open
(R323, examples 7 and 8). That a collision leaves only the colliding value open is the spec's decision D34 (log 24). -/
def Obligations.PairControlTransfers : Prop :=
  ∀ (s : State) (l : Instr) (d8 : BitVec 8) (n : BitVec 4) (r : RegNum), category l = some .both ∨ category l = some .right →
    (∀ u target, (u, target) ∈ [(Instr.bra8 d8, relTarget s.pc d8), (.jmp r, wordFloor (readReg s r))] →
      WithPartner l target {} s (execPair u l s) (fun _ => True))
    ∧ (∀ u target, (u, target) ∈ [(Instr.bl8 d8, relTarget s.pc d8), (.jl r, wordFloor (readReg s r))] →
      WithPartner l target { slots := [slotOf s 14], draws := true } s (execPair u l s)
        (fun t => LeavesSlot l (slotOf s 14) s → readReg t 14 = wordFloor s.pc + 4))
    ∧ (psw_c s.psw = true →
      (∀ u target, (u, target) ∈ [(Instr.bc8 d8, relTarget s.pc d8), (.jc r, wordFloor (readReg s r)), (.bnc8 d8, s.pc + 4),
          (.bncl8 d8, s.pc + 4), (.jnc r, s.pc + 4)] → WithPartner l target {} s (execPair u l s) (fun _ => True))
      ∧ WithPartner l (relTarget s.pc d8) { slots := [slotOf s 14], draws := true } s (execPair (.bcl8 d8) l s)
        (fun t => LeavesSlot l (slotOf s 14) s → readReg t 14 = wordFloor s.pc + 4))
    ∧ (psw_c s.psw = false →
      (∀ u target, (u, target) ∈ [(Instr.bnc8 d8, relTarget s.pc d8), (.jnc r, wordFloor (readReg s r)), (.bc8 d8, s.pc + 4),
          (.bcl8 d8, s.pc + 4), (.jc r, s.pc + 4)] → WithPartner l target {} s (execPair u l s) (fun _ => True))
      ∧ WithPartner l (relTarget s.pc d8) { slots := [slotOf s 14], draws := true } s (execPair (.bncl8 d8) l s)
        (fun t => LeavesSlot l (slotOf s 14) s → readReg t 14 = wordFloor s.pc + 4))
    ∧ (userMode s = false →
      WithPartner l (BitVec.ofNat 32 (s.bpc.toNat / 2 * 2)) { psw := true, draws := true } s (execPair .rte l s) (fun t =>
        (∀ b, b ≠ 0 → t.psw.getLsbD b = (returnPsw s.psw).getLsbD b)
        ∧ psw_sm t.psw = psw_bsm s.psw ∧ psw_ie t.psw = psw_bie s.psw ∧ psw_pm t.psw = psw_bpm s.psw
        ∧ psw_ce t.psw = psw_bce s.psw ∧ (LeavesCond l s → psw_c t.psw = psw_bc s.psw)))
    ∧ (s.pc.getLsbD 0 = false →
      WithPartner l (vectorAddress s (.trap n)) { psw := true, bpc := true, draws := true } s (execPair (.trap n) l s) (fun t =>
        t.bpc = s.pc + 4 ∧ psw_sm t.psw = psw_sm s.psw ∧ psw_bsm t.psw = psw_sm s.psw ∧ psw_bie t.psw = psw_ie s.psw
        ∧ psw_bpm t.psw = psw_pm s.psw ∧ psw_bce t.psw = psw_ce s.psw ∧ psw_bc t.psw = psw_c s.psw
        ∧ psw_ie t.psw = false ∧ psw_pm t.psw = false ∧ psw_ce t.psw = false
        ∧ (LeavesCond l s → t.psw = (enterEIT (.trap n) (s.pc + 4) s).psw)))

/-- The lower half of a pair, `OS` or `-S`, only writes registers, C and accumulators: it never raises, stops, stores, or sets the pc
(R320, R325). -/
def Obligations.LowerHalfNeverRaises : Prop :=
  ∀ (s : State) (l : Instr), category l = some .both ∨ category l = some .right →
    ∃ e, action .pair l s = .writes e ∧ e.store = none ∧ e.pc = none ∧ e.psw = none ∧ e.bpc = none ∧ e.evb = none
      ∧ e.lock = none ∧ e.cop = none ∧ e.copReads = 0 ∧ e.device = [] ∧ e.deviceReads = 0

/-- Table 3.4.1 (R325): an exception of the upper half discards both halves; a half that does not decode raises RIE whatever the
other is. BPC is what `EIT_BPC_POLICY` says, by default the address of the pair (the spec's decision D10, log 16); that a half which
does not decode raises RIE is the spec's decision D15, for the patterns of the platform's `RIE_SET` (log 15). -/
def Obligations.PairExceptions : Prop :=
  (∀ (s : State) (u l : Instr) (ev : Event), action .pair u s = .raises ev → Enters ev 4 s (execPair u l s))
  ∧ (∀ s : State, Fetches s → s.pc.getLsbD 1 = false → (readWord s.mem (wordFloor s.pc)).getLsbD 31 = false
    → (readWord s.mem (wordFloor s.pc)).getLsbD 15 = true
    → (∃ h ∈ [(readWord s.mem (wordFloor s.pc)).extractLsb' 16 16, (readWord s.mem (wordFloor s.pc)).extractLsb' 0 16],
        decode16 h = none ∧ inRieSet16 s.platform.encoding h = true)
    → Enters .rie 4 s (step s))

/-- SC and SNC in a pair cancel their partner by the old C; a partner not cancelled does what it does alone, and the pc is the next
word (R251, R252, R326). -/
def Obligations.PairSkip : Prop :=
  ∀ (s : State) (l : Instr), category l = some .both ∨ category l = some .right →
    (psw_c s.psw = true → RunsTo 4 {} s (execPair .sc l s) (fun _ => True))
    ∧ (psw_c s.psw = false → RunsTo 4 {} s (execPair .snc l s) (fun _ => True))
    ∧ (psw_c s.psw = false → ∃ t, exec l s = .next t ∧ execPair .sc l s = .next { t with pc := s.pc + 4 })
    ∧ (psw_c s.psw = true → ∃ t, exec l s = .next t ∧ execPair .snc l s = .next { t with pc := s.pc + 4 })

/-- What the spec's decisions refuse at fetch: a pair outside the allowed combinations (R314, R315, D17) and an entry at the lower
halfword of a word that is not two sequential halfwords (R317, D7). -/
def Obligations.RefusedPlacements : Prop :=
  ∀ s : State, Fetches s →
    (s.pc.getLsbD 1 = true → (readWord s.mem (wordFloor s.pc)).getLsbD 31 = true
        ∨ (readWord s.mem (wordFloor s.pc)).getLsbD 15 = true → step s = .refused .badHalfwordEntry)
    ∧ (∀ u l, s.pc.getLsbD 1 = false → (readWord s.mem (wordFloor s.pc)).getLsbD 31 = false
      → (readWord s.mem (wordFloor s.pc)).getLsbD 15 = true
      → decode16 ((readWord s.mem (wordFloor s.pc)).extractLsb' 16 16) = some u
      → decode16 ((readWord s.mem (wordFloor s.pc)).extractLsb' 0 16) = some l
      → (category l = some .left ∨ (category u = some .right ∧ l ≠ .nop)) → step s = .refused .invalidPair)

/-! ### The whole machine -/

/-- A program that has branched to itself with nothing pending has come to rest: the state can no longer change (R399, D27). -/
def Obligations.BranchToSelfIsRest : Prop :=
  ∀ s : State, AtRest s → step s = .next s

/-- No step changes the platform or the inputs it was given: the pending interrupts and the coprocessors switched off stay, of the
answers that coprocessors and devices will give some are used up in order, and the records of what was sent to them only grow. That
the pending inputs are fields no step changes is the model's choice of log 17 (D11: the platform decides when a request ends), that
the platform is a constant field that of log 4. -/
def Obligations.StepKeepsEnvironment : Prop :=
  ∀ s t : State, step s = .next t →
    t.platform = s.platform ∧ t.eiPending = s.eiPending ∧ t.cpiPending = s.cpiPending ∧ t.copDisabled = s.copDisabled
    ∧ (∃ n, t.copAnswers = s.copAnswers.drop n) ∧ (∃ n, t.deviceAnswers = s.deviceAnswers.drop n)
    ∧ (∃ sent, t.copRequests = s.copRequests ++ sent) ∧ ∃ issued, t.deviceAccesses = s.deviceAccesses ++ issued
end

