-- ==== Sys2Proof/Laws/Decode.lean ====
section
/-! SUPPORT. The encoding tables: two rows differ in a bit that both masks fix, so the first row that fits a word is the only
one (R130). -/

namespace Sys2Proof

/-- Rows that are apart fit no common word. -/
theorem Row.apart_not_fits {n : Nat} {a b : Row n} {w : BitVec n} (h : a.apart b = true) (ha : a.fits w = true) :
    b.fits w = false := by
  simp only [Row.fits, beq_iff_eq] at ha
  by_contra hb
  simp only [Row.fits, beq_iff_eq, Bool.not_eq_false] at hb
  have : a.mask &&& b.mask &&& (a.bits ^^^ b.bits) = 0#n := by
    rw [← ha, ← hb]
    apply BitVec.eq_of_getLsbD_eq
    intro i hi
    simp only [BitVec.getLsbD_and, BitVec.getLsbD_xor, BitVec.getLsbD_zero]
    cases a.mask.getLsbD i <;> cases b.mask.getLsbD i <;> cases w.getLsbD i <;> rfl
  simp [Row.apart, this] at h

/-- The 16-bit rows are pairwise apart. -/
theorem rows16_apart : rows16.Pairwise (fun a b => a.apart b = true) := by decide

/-- Two patterns differ in a bit that both fix. -/
def Pattern.apart {n : Nat} (p q : Pattern n) : Bool := p.mask &&& q.mask &&& (p.bits ^^^ q.bits) != 0

/-- The constant bits of a row. -/
def Row.pattern {n : Nat} (r : Row n) : Pattern n := { mask := r.mask, bits := r.bits }

/-- For every width of `cpid` the patterns of the 32-bit rows are pairwise apart. -/
theorem patterns32_apart : ∀ k : Fin 13,
    ((rows32Fixed ++ rows32Cop { Encoding.standard with cpidWidth := k }).map Row.pattern).Pairwise
      (fun p q => p.apart q = true) := by
  decide

/-- The 32-bit rows that every platform has are pairwise apart. -/
theorem rows32_fixed_apart (c : Encoding) : (rows32Fixed ++ rows32Cop c).Pairwise (fun a b => a.apart b = true) := by
  have same : (rows32Fixed ++ rows32Cop c).map Row.pattern
      = (rows32Fixed ++ rows32Cop { Encoding.standard with cpidWidth := c.cpidWidth }).map Row.pattern := by
    simp [rows32Cop, Row.pattern, copMask]
  exact List.pairwise_map.mp (same ▸ patterns32_apart c.cpidWidth)

/-- The 32-bit rows of a well-formed platform are pairwise apart. -/
theorem rows32_apart (c : Encoding) (h : c.wf = true) : (rows32 c).Pairwise (fun a b => a.apart b = true) := by
  have fixed := rows32_fixed_apart c
  unfold rows32
  cases ho : c.opecp with
  | none => simpa using fixed
  | some o =>
    have hall : ∀ r ∈ rows32Fixed ++ rows32Cop c, r.apart (opecpRow c o) = true := by
      simp only [Encoding.wf, ho, Option.all_some, OpecpEncoding.wf, Bool.and_eq_true] at h
      exact List.all_eq_true.mp h.2
    refine List.pairwise_append.mpr ⟨fixed, by simp, fun a ha b hb => ?_⟩
    simp only [Option.map_some, Option.toList_some, List.mem_singleton] at hb
    exact hb ▸ hall a ha

/-- In a table whose rows are pairwise apart, a row that fits is the one found. -/
theorem find_eq_of_fits {n : Nat} {rows : List (Row n)} (hp : rows.Pairwise (fun a b => a.apart b = true)) {r : Row n}
    (hr : r ∈ rows) {w : BitVec n} (hw : r.fits w = true) : rows.find? (fun q => q.fits w) = some r := by
  induction rows with
  | nil => cases hr
  | cons q rest ih =>
    rw [List.pairwise_cons] at hp
    rcases List.mem_cons.mp hr with rfl | hr
    · simp [hw]
    · have hq : q.fits w = false := by
        by_contra hq
        have := Row.apart_not_fits (hp.1 r hr) (Bool.not_eq_false _ ▸ hq)
        rw [this] at hw
        cases hw
      simp [hq, ih hp.2 hr]

/-- A word that fits a row of the 16-bit table decodes by that row. -/
theorem decode16_of_fits {r : Row 16} (hr : r ∈ rows16) {h : Half} (hw : r.fits h = true) : decode16 h = some (r.build h) := by
  simp [decode16, find_eq_of_fits rows16_apart hr hw]

/-- A word that fits a row of the 32-bit table decodes by that row. -/
theorem decode32_of_fits {c : Encoding} (h : c.wf = true) {r : Row 32} (hr : r ∈ rows32 c) {w : Word} (hw : r.fits w = true) :
    decode32 c w = some (r.build w) := by
  simp [decode32, find_eq_of_fits (rows32_apart c h) hr hw]

end Sys2Proof
end

