-- ==== Sys2Proof/Laws/Memory.lean ====
section
/-! SUPPORT. What the memory operations do: read after write, frame, canonical form kept (R70, R72, R82). -/

namespace Sys2Proof.Machine

theorem memGet_memSet_same (m : Memory) (a : Nat) (v : Byte) (lo : Nat) (h : memWfFrom lo m = true) :
    memGet (memSet m a v) a = v := by
  induction m generalizing lo with
  | nil => by_cases hv : v = unlistedByte <;> simp [memSet, memGet, hv]
  | cons c rest ih =>
    obtain ⟨b, w⟩ := c
    simp only [memWfFrom, Bool.and_eq_true, decide_eq_true_eq] at h
    obtain ⟨⟨⟨h1, h2⟩, h3⟩, h4⟩ := h
    have tail : ∀ (l : Memory) (lo : Nat), memWfFrom lo l = true → ∀ k, k < lo → memGet l k = unlistedByte := by
      intro l
      induction l with
      | nil => intros; rfl
      | cons d l ihl =>
        obtain ⟨e, u⟩ := d
        intro lo hl k hk
        simp only [memWfFrom, Bool.and_eq_true, decide_eq_true_eq] at hl
        have : e ≠ k := by omega
        simp [memGet, this, ihl _ hl.2 k (by omega)]
    simp only [memSet]
    split
    · rename_i hlt
      split
      · rename_i hv
        have : b ≠ a := by omega
        simp [memGet, this, tail _ _ h4 a (by omega), hv]
      · simp [memGet]
    · split
      · rename_i heq
        split
        · rename_i hv
          rw [hv]; exact tail _ _ h4 a (by omega)
        · simp [memGet]
      · rename_i hne
        have : b ≠ a := fun e => hne e.symm
        simp [memGet, this, ih _ h4]

theorem memGet_memSet_of_ne (m : Memory) {a k : Nat} (v : Byte) (h : k ≠ a) :
    memGet (memSet m a v) k = memGet m k := by
  have hak : ¬ a = k := fun e => h e.symm
  induction m with
  | nil => simp only [memSet]; split <;> simp [memGet, hak]
  | cons c rest ih =>
    obtain ⟨b, w⟩ := c
    simp only [memSet]
    split
    · split <;> simp [memGet, hak]
    · split
      · rename_i heq
        subst heq
        split <;> simp [memGet, hak]
      · by_cases hb : b = k <;> simp [memGet, hb, ih]

theorem memWfFrom_memSet (m : Memory) (lo a : Nat) (v : Byte) (h : memWfFrom lo m = true) (hlo : lo ≤ a) (ha : a < 2 ^ 32) :
    memWfFrom lo (memSet m a v) = true := by
  have weaken : ∀ (l : Memory) (x y : Nat), x ≤ y → memWfFrom y l = true → memWfFrom x l = true := by
    intro l x y hxy hl
    cases l with
    | nil => rfl
    | cons d l =>
      obtain ⟨e, u⟩ := d
      simp only [memWfFrom, Bool.and_eq_true, decide_eq_true_eq] at hl ⊢
      exact ⟨⟨⟨by omega, hl.1.1.2⟩, hl.1.2⟩, hl.2⟩
  induction m generalizing lo with
  | nil =>
    simp only [memSet]
    split
    · rfl
    · rename_i hv; simp only [memWfFrom, Bool.and_true, Bool.and_eq_true, decide_eq_true_eq]; exact ⟨⟨hlo, ha⟩, by simpa using hv⟩
  | cons c rest ih =>
    obtain ⟨b, w⟩ := c
    have h0 := h
    simp only [memWfFrom, Bool.and_eq_true, decide_eq_true_eq] at h
    obtain ⟨⟨⟨h1, h2⟩, h3⟩, h4⟩ := h
    simp only [memSet]
    split
    · split
      · exact h0
      · rename_i hlt hv
        simp only [memWfFrom, Bool.and_eq_true, decide_eq_true_eq]
        refine ⟨⟨⟨hlo, ha⟩, ?_⟩, ⟨⟨⟨by omega, h2⟩, h3⟩, h4⟩⟩
        simpa using hv
    · split
      · rename_i heq
        split
        · exact weaken _ _ _ (by omega) h4
        · rename_i hv
          simp only [memWfFrom, Bool.and_eq_true, decide_eq_true_eq]
          refine ⟨⟨⟨hlo, ha⟩, ?_⟩, ?_⟩
          · simpa using hv
          · rw [heq]; exact h4
      · simp only [memWfFrom, Bool.and_eq_true, decide_eq_true_eq]
        exact ⟨⟨⟨h1, h2⟩, h3⟩, ih (b + 1) h4 (by omega)⟩

/-- Setting a byte keeps the canonical form. -/
theorem memSet_wf (m : Memory) (a : Word) (v : Byte) (h : Memory.wf m = true) : Memory.wf (memSet m a.toNat v) = true :=
  memWfFrom_memSet m 0 _ v h (Nat.zero_le _) a.isLt

/-- Storing bytes keeps the canonical form. -/
theorem writeBytes_wf (bs : List Byte) (m : Memory) (a : Word) (h : Memory.wf m = true) :
    Memory.wf (writeBytes m a bs) = true := by
  induction bs generalizing m a with
  | nil => exact h
  | cons b bs ih => exact ih _ _ (memSet_wf m a b h)

/-- An optional store keeps the canonical form. -/
theorem commitMem_wf (m : Memory) (st : Option Store) (h : Memory.wf m = true) : Memory.wf (commitMem m st) = true := by
  cases st with
  | none => exact h
  | some st => exact writeBytes_wf st.bytes m st.addr h

theorem readByte_memSet_same (m : Memory) (a : Word) (v : Byte) (h : Memory.wf m = true) :
    readByte (memSet m a.toNat v) a = v := memGet_memSet_same m _ v 0 h

theorem readByte_memSet_of_ne (m : Memory) {a b : Word} (v : Byte) (h : b ≠ a) :
    readByte (memSet m a.toNat v) b = readByte m b :=
  memGet_memSet_of_ne m v (fun e => h (BitVec.eq_of_toNat_eq e))

/-- A store leaves every byte outside its range as it was. -/
theorem readByte_writeBytes_of_notMem (bs : List Byte) (m : Memory) (a b : Word) (h : b ∉ byteRange a bs.length) :
    readByte (writeBytes m a bs) b = readByte m b := by
  induction bs generalizing m a with
  | nil => rfl
  | cons v bs ih =>
    simp only [List.length_cons, byteRange, List.mem_cons, not_or] at h
    simp only [writeBytes]
    rw [ih _ _ h.2, readByte_memSet_of_ne m v h.1]

/-- A byte stored is read back. -/
theorem readByte_writeBytes_one (m : Memory) (a : Word) (v : Byte) (h : Memory.wf m = true) :
    readByte (writeBytes m a [v]) a = v := readByte_memSet_same m a v h

/-- Two neighbouring parts of a word make the part they cover. -/
theorem append_part {w : Nat} (v : BitVec w) (hi n lo m : Nat) (h : hi = lo + m) :
    v.extractLsb' hi n ++ v.extractLsb' lo m = v.extractLsb' lo (n + m) :=
  BitVec.extractLsb'_append_extractLsb'_eq_extractLsb' h

theorem append_bytes (v : Half) : v.extractLsb' 8 8 ++ v.extractLsb' 0 8 = v :=
  (append_part v 8 8 0 8 (by omega)).trans BitVec.extractLsb'_eq_self

/-- A halfword stored is read back. -/
theorem readHalf_writeBytes_same (m : Memory) (a : Word) (v : Half) (h : Memory.wf m = true) :
    readHalf (writeBytes m a (halfBytes v)) a = v := by
  have h1 : a ≠ a + 1 := by bv_omega
  simp only [halfBytes, writeBytes, readHalf]
  rw [readByte_memSet_of_ne _ _ h1, readByte_memSet_same _ _ _ h, readByte_memSet_same _ _ _ (memSet_wf _ _ _ h)]
  exact append_bytes v

/-- A word stored is read back. -/
theorem readWord_writeBytes_same (m : Memory) (a : Word) (v : Word) (h : Memory.wf m = true) :
    readWord (writeBytes m a (wordBytes v)) a = v := by
  have h1 : a ≠ a + 1 := by bv_omega
  have h2 : a ≠ a + 1 + 1 := by bv_omega
  have h3 : a ≠ a + 1 + 1 + 1 := by bv_omega
  have h4 : a + 1 ≠ a + 1 + 1 := by bv_omega
  have h5 : a + 1 ≠ a + 1 + 1 + 1 := by bv_omega
  have h6 : a + 1 + 1 ≠ a + 1 + 1 + 1 := by bv_omega
  have e2 : a + 2 = a + 1 + 1 := by bv_omega
  simp only [wordBytes, writeBytes, readWord, readHalf, e2]
  have w1 := memSet_wf m a (v.extractLsb' 24 8) h
  have w2 := memSet_wf _ (a + 1) (v.extractLsb' 16 8) w1
  have w3 := memSet_wf _ (a + 1 + 1) (v.extractLsb' 8 8) w2
  rw [readByte_memSet_of_ne _ _ h3, readByte_memSet_of_ne _ _ h2, readByte_memSet_of_ne _ _ h1, readByte_memSet_same _ _ _ h,
    readByte_memSet_of_ne _ _ h5, readByte_memSet_of_ne _ _ h4, readByte_memSet_same _ _ _ w1,
    readByte_memSet_of_ne _ _ h6, readByte_memSet_same _ _ _ w2, readByte_memSet_same _ _ _ w3]
  rw [append_part v 24 8 16 8 (by omega), append_part v 8 8 0 8 (by omega), append_part v 16 16 0 16 (by omega)]
  exact BitVec.extractLsb'_eq_self

theorem mem_insertAddr (l : List Nat) (a n : Nat) : n ∈ insertAddr l a ↔ n ∈ l ∨ n = a := by
  induction l with
  | nil => simp [insertAddr]
  | cons b l ih =>
    simp only [insertAddr]
    split
    · simp only [List.mem_cons]; tauto
    · split
      · rename_i heq
        subst heq
        simp only [List.mem_cons]; tauto
      · simp only [List.mem_cons, ih]; tauto

/-- The stored-to set grows by exactly the addresses stored to. -/
theorem mem_noteWritten (k : Nat) (l : List Nat) (a : Word) (n : Nat) :
    n ∈ noteWritten l a k ↔ n ∈ l ∨ ∃ b ∈ byteRange a k, b.toNat = n := by
  induction k generalizing l a with
  | zero => simp [noteWritten, byteRange]
  | succ k ih =>
    simp only [noteWritten, ih, mem_insertAddr, byteRange, List.mem_cons]
    constructor
    · rintro ((h | h) | ⟨b, hb, h⟩)
      · exact .inl h
      · exact .inr ⟨a, .inl rfl, h.symm⟩
      · exact .inr ⟨b, .inr hb, h⟩
    · rintro (h | ⟨b, rfl | hb, h⟩)
      · exact .inl (.inl h)
      · exact .inl (.inr h.symm)
      · exact .inr ⟨b, hb, h⟩

theorem risingFrom_insertAddr (l : List Nat) (lo a : Nat) (h : risingFrom lo l = true) (hlo : lo ≤ a) (ha : a < 2 ^ 32) :
    risingFrom lo (insertAddr l a) = true := by
  induction l generalizing lo with
  | nil => simp only [insertAddr, risingFrom, Bool.and_true, Bool.and_eq_true, decide_eq_true_eq]; exact ⟨hlo, ha⟩
  | cons b l ih =>
    have h0 := h
    simp only [risingFrom, Bool.and_eq_true, decide_eq_true_eq] at h
    obtain ⟨⟨h1, h2⟩, h3⟩ := h
    simp only [insertAddr]
    split
    · simp only [risingFrom, Bool.and_eq_true, decide_eq_true_eq]
      exact ⟨⟨hlo, ha⟩, ⟨⟨by omega, h2⟩, h3⟩⟩
    · split
      · exact h0
      · simp only [risingFrom, Bool.and_eq_true, decide_eq_true_eq]
        exact ⟨⟨h1, h2⟩, ih (b + 1) h3 (by omega)⟩

/-- Recording stores keeps the stored-to set in canonical form. -/
theorem noteWritten_rising (k : Nat) (l : List Nat) (a : Word) (h : risingFrom 0 l = true) :
    risingFrom 0 (noteWritten l a k) = true := by
  induction k generalizing l a with
  | zero => exact h
  | succ k ih => exact ih _ _ (risingFrom_insertAddr l 0 _ h (Nat.zero_le _) a.isLt)

/-- The reset memory is in canonical form. -/
theorem reset_mem_wf : Memory.wf State.reset.mem = true := rfl

/-- A loaded word keeps the canonical form. -/
theorem loadWord_wf (s : State) (a w : Word) (h : Memory.wf s.mem = true) : Memory.wf (loadWord s a w).mem = true :=
  writeBytes_wf _ _ _ h

end Sys2Proof.Machine
end

