-- ==== Sys2Proof/Laws/State.lean ====
section
/-! SUPPORT. One lemma per field of `State` per update, so that no later proof unfolds a record update. -/

namespace Sys2Proof.Machine

/-! ### writeSlot -/

@[simp] theorem writeSlot_psw (s : State) (sl : Slot) (v : Word) : (writeSlot s sl v).psw = s.psw := by
  cases sl <;> rfl

@[simp] theorem writeSlot_evb (s : State) (sl : Slot) (v : Word) : (writeSlot s sl v).evb = s.evb := by
  cases sl <;> rfl

@[simp] theorem writeSlot_evbWritten (s : State) (sl : Slot) (v : Word) : (writeSlot s sl v).evbWritten = s.evbWritten := by
  cases sl <;> rfl

@[simp] theorem writeSlot_bpc (s : State) (sl : Slot) (v : Word) : (writeSlot s sl v).bpc = s.bpc := by
  cases sl <;> rfl

@[simp] theorem writeSlot_acc0 (s : State) (sl : Slot) (v : Word) : (writeSlot s sl v).acc0 = s.acc0 := by
  cases sl <;> rfl

@[simp] theorem writeSlot_acc1 (s : State) (sl : Slot) (v : Word) : (writeSlot s sl v).acc1 = s.acc1 := by
  cases sl <;> rfl

@[simp] theorem writeSlot_pc (s : State) (sl : Slot) (v : Word) : (writeSlot s sl v).pc = s.pc := by
  cases sl <;> rfl

@[simp] theorem writeSlot_lock (s : State) (sl : Slot) (v : Word) : (writeSlot s sl v).lock = s.lock := by
  cases sl <;> rfl

@[simp] theorem writeSlot_mem (s : State) (sl : Slot) (v : Word) : (writeSlot s sl v).mem = s.mem := by
  cases sl <;> rfl

@[simp] theorem writeSlot_written (s : State) (sl : Slot) (v : Word) : (writeSlot s sl v).written = s.written := by
  cases sl <;> rfl

@[simp] theorem writeSlot_resetRequest (s : State) (sl : Slot) (v : Word) : (writeSlot s sl v).resetRequest = s.resetRequest := by
  cases sl <;> rfl

@[simp] theorem writeSlot_eiPending (s : State) (sl : Slot) (v : Word) : (writeSlot s sl v).eiPending = s.eiPending := by
  cases sl <;> rfl

@[simp] theorem writeSlot_cpiPending (s : State) (sl : Slot) (v : Word) : (writeSlot s sl v).cpiPending = s.cpiPending := by
  cases sl <;> rfl

@[simp] theorem writeSlot_copRequests (s : State) (sl : Slot) (v : Word) : (writeSlot s sl v).copRequests = s.copRequests := by
  cases sl <;> rfl

@[simp] theorem writeSlot_copDisabled (s : State) (sl : Slot) (v : Word) : (writeSlot s sl v).copDisabled = s.copDisabled := by
  cases sl <;> rfl

@[simp] theorem writeSlot_copAnswers (s : State) (sl : Slot) (v : Word) : (writeSlot s sl v).copAnswers = s.copAnswers := by
  cases sl <;> rfl

@[simp] theorem writeSlot_deviceAnswers (s : State) (sl : Slot) (v : Word) : (writeSlot s sl v).deviceAnswers = s.deviceAnswers := by
  cases sl <;> rfl

@[simp] theorem writeSlot_deviceAccesses (s : State) (sl : Slot) (v : Word) : (writeSlot s sl v).deviceAccesses = s.deviceAccesses := by
  cases sl <;> rfl

@[simp] theorem writeSlot_platform (s : State) (sl : Slot) (v : Word) : (writeSlot s sl v).platform = s.platform := by
  cases sl <;> rfl

@[simp] theorem writeSlot_draws (s : State) (sl : Slot) (v : Word) : (writeSlot s sl v).draws = s.draws := by
  cases sl <;> rfl

/-- Reading the storage just written. -/
@[simp] theorem readSlot_writeSlot_same (s : State) (sl : Slot) (v : Word) : readSlot (writeSlot s sl v) sl = v := by
  cases sl <;> simp [readSlot, writeSlot]

/-- Reading other storage. -/
@[simp] theorem readSlot_writeSlot_of_ne (s : State) {sl sl' : Slot} (v : Word) (h : sl' ≠ sl) :
    readSlot (writeSlot s sl v) sl' = readSlot s sl' := by
  cases sl with
  | r n =>
    cases sl' with
    | r m =>
      have hne : n.val ≠ m.val := fun e => h (congrArg Slot.r (Fin.ext e.symm))
      simp [readSlot, writeSlot, Vector.getElem_set_ne, hne]
    | spi => rfl
    | spu => rfl
  | spi => cases sl' <;> first | rfl | exact absurd rfl h
  | spu => cases sl' <;> first | rfl | exact absurd rfl h

/-! ### commitRegs -/

@[simp] theorem commitRegs_psw (s : State) (l : List (Slot × Word)) : (commitRegs s l).psw = s.psw := by
  induction l generalizing s with
  | nil => rfl
  | cons w l ih => exact (ih _).trans (writeSlot_psw s w.1 w.2)

@[simp] theorem commitRegs_evb (s : State) (l : List (Slot × Word)) : (commitRegs s l).evb = s.evb := by
  induction l generalizing s with
  | nil => rfl
  | cons w l ih => exact (ih _).trans (writeSlot_evb s w.1 w.2)

@[simp] theorem commitRegs_evbWritten (s : State) (l : List (Slot × Word)) : (commitRegs s l).evbWritten = s.evbWritten := by
  induction l generalizing s with
  | nil => rfl
  | cons w l ih => exact (ih _).trans (writeSlot_evbWritten s w.1 w.2)

@[simp] theorem commitRegs_bpc (s : State) (l : List (Slot × Word)) : (commitRegs s l).bpc = s.bpc := by
  induction l generalizing s with
  | nil => rfl
  | cons w l ih => exact (ih _).trans (writeSlot_bpc s w.1 w.2)

@[simp] theorem commitRegs_acc0 (s : State) (l : List (Slot × Word)) : (commitRegs s l).acc0 = s.acc0 := by
  induction l generalizing s with
  | nil => rfl
  | cons w l ih => exact (ih _).trans (writeSlot_acc0 s w.1 w.2)

@[simp] theorem commitRegs_acc1 (s : State) (l : List (Slot × Word)) : (commitRegs s l).acc1 = s.acc1 := by
  induction l generalizing s with
  | nil => rfl
  | cons w l ih => exact (ih _).trans (writeSlot_acc1 s w.1 w.2)

@[simp] theorem commitRegs_pc (s : State) (l : List (Slot × Word)) : (commitRegs s l).pc = s.pc := by
  induction l generalizing s with
  | nil => rfl
  | cons w l ih => exact (ih _).trans (writeSlot_pc s w.1 w.2)

@[simp] theorem commitRegs_lock (s : State) (l : List (Slot × Word)) : (commitRegs s l).lock = s.lock := by
  induction l generalizing s with
  | nil => rfl
  | cons w l ih => exact (ih _).trans (writeSlot_lock s w.1 w.2)

@[simp] theorem commitRegs_mem (s : State) (l : List (Slot × Word)) : (commitRegs s l).mem = s.mem := by
  induction l generalizing s with
  | nil => rfl
  | cons w l ih => exact (ih _).trans (writeSlot_mem s w.1 w.2)

@[simp] theorem commitRegs_written (s : State) (l : List (Slot × Word)) : (commitRegs s l).written = s.written := by
  induction l generalizing s with
  | nil => rfl
  | cons w l ih => exact (ih _).trans (writeSlot_written s w.1 w.2)

@[simp] theorem commitRegs_resetRequest (s : State) (l : List (Slot × Word)) : (commitRegs s l).resetRequest = s.resetRequest := by
  induction l generalizing s with
  | nil => rfl
  | cons w l ih => exact (ih _).trans (writeSlot_resetRequest s w.1 w.2)

@[simp] theorem commitRegs_eiPending (s : State) (l : List (Slot × Word)) : (commitRegs s l).eiPending = s.eiPending := by
  induction l generalizing s with
  | nil => rfl
  | cons w l ih => exact (ih _).trans (writeSlot_eiPending s w.1 w.2)

@[simp] theorem commitRegs_cpiPending (s : State) (l : List (Slot × Word)) : (commitRegs s l).cpiPending = s.cpiPending := by
  induction l generalizing s with
  | nil => rfl
  | cons w l ih => exact (ih _).trans (writeSlot_cpiPending s w.1 w.2)

@[simp] theorem commitRegs_copRequests (s : State) (l : List (Slot × Word)) : (commitRegs s l).copRequests = s.copRequests := by
  induction l generalizing s with
  | nil => rfl
  | cons w l ih => exact (ih _).trans (writeSlot_copRequests s w.1 w.2)

@[simp] theorem commitRegs_copDisabled (s : State) (l : List (Slot × Word)) : (commitRegs s l).copDisabled = s.copDisabled := by
  induction l generalizing s with
  | nil => rfl
  | cons w l ih => exact (ih _).trans (writeSlot_copDisabled s w.1 w.2)

@[simp] theorem commitRegs_copAnswers (s : State) (l : List (Slot × Word)) : (commitRegs s l).copAnswers = s.copAnswers := by
  induction l generalizing s with
  | nil => rfl
  | cons w l ih => exact (ih _).trans (writeSlot_copAnswers s w.1 w.2)

@[simp] theorem commitRegs_deviceAnswers (s : State) (l : List (Slot × Word)) : (commitRegs s l).deviceAnswers = s.deviceAnswers := by
  induction l generalizing s with
  | nil => rfl
  | cons w l ih => exact (ih _).trans (writeSlot_deviceAnswers s w.1 w.2)

@[simp] theorem commitRegs_deviceAccesses (s : State) (l : List (Slot × Word)) : (commitRegs s l).deviceAccesses = s.deviceAccesses := by
  induction l generalizing s with
  | nil => rfl
  | cons w l ih => exact (ih _).trans (writeSlot_deviceAccesses s w.1 w.2)

@[simp] theorem commitRegs_platform (s : State) (l : List (Slot × Word)) : (commitRegs s l).platform = s.platform := by
  induction l generalizing s with
  | nil => rfl
  | cons w l ih => exact (ih _).trans (writeSlot_platform s w.1 w.2)

@[simp] theorem commitRegs_draws (s : State) (l : List (Slot × Word)) : (commitRegs s l).draws = s.draws := by
  induction l generalizing s with
  | nil => rfl
  | cons w l ih => exact (ih _).trans (writeSlot_draws s w.1 w.2)

@[simp] theorem commitRegs_nil (s : State) : commitRegs s [] = s := rfl

@[simp] theorem commitRegs_cons (s : State) (w : Slot × Word) (l : List (Slot × Word)) :
    commitRegs s (w :: l) = commitRegs (writeSlot s w.1 w.2) l := rfl

/-- Storage no write names is unchanged. -/
theorem readSlot_commitRegs_of_notMem (s : State) (l : List (Slot × Word)) (sl : Slot) (h : ∀ w ∈ l, w.1 ≠ sl) :
    readSlot (commitRegs s l) sl = readSlot s sl := by
  induction l generalizing s with
  | nil => rfl
  | cons w l ih =>
    simp only [commitRegs_cons]
    rw [ih _ (fun x hx => h x (List.mem_cons_of_mem _ hx)),
      readSlot_writeSlot_of_ne _ _ (Ne.symm (h w List.mem_cons_self))]

/-! ### commit -/

@[simp] theorem commit_gpr (e : Effect) (next : Word) (s : State) :
    (commit e next s).gpr = (commitRegs s e.regs).gpr := rfl

@[simp] theorem commit_spi (e : Effect) (next : Word) (s : State) :
    (commit e next s).spi = (commitRegs s e.regs).spi := rfl

@[simp] theorem commit_spu (e : Effect) (next : Word) (s : State) :
    (commit e next s).spu = (commitRegs s e.regs).spu := rfl

@[simp] theorem commit_psw (e : Effect) (next : Word) (s : State) :
    (commit e next s).psw = commitPsw s.psw e := rfl

@[simp] theorem commit_evb (e : Effect) (next : Word) (s : State) :
    (commit e next s).evb = e.evb.getD s.evb := rfl

@[simp] theorem commit_evbWritten (e : Effect) (next : Word) (s : State) :
    (commit e next s).evbWritten = (s.evbWritten || e.evb.isSome) := rfl

@[simp] theorem commit_bpc (e : Effect) (next : Word) (s : State) :
    (commit e next s).bpc = e.bpc.getD s.bpc := rfl

@[simp] theorem commit_acc0 (e : Effect) (next : Word) (s : State) :
    (commit e next s).acc0 = e.acc0.getD s.acc0 := rfl

@[simp] theorem commit_acc1 (e : Effect) (next : Word) (s : State) :
    (commit e next s).acc1 = e.acc1.getD s.acc1 := rfl

@[simp] theorem commit_pc (e : Effect) (next : Word) (s : State) :
    (commit e next s).pc = e.pc.getD next := rfl

@[simp] theorem commit_lock (e : Effect) (next : Word) (s : State) :
    (commit e next s).lock = e.lock.getD s.lock := rfl

@[simp] theorem commit_mem (e : Effect) (next : Word) (s : State) :
    (commit e next s).mem = commitMem s.mem e.store := rfl

@[simp] theorem commit_written (e : Effect) (next : Word) (s : State) :
    (commit e next s).written = commitWritten s.written e.store := rfl

@[simp] theorem commit_resetRequest (e : Effect) (next : Word) (s : State) :
    (commit e next s).resetRequest = s.resetRequest := commitRegs_resetRequest s e.regs

@[simp] theorem commit_eiPending (e : Effect) (next : Word) (s : State) :
    (commit e next s).eiPending = s.eiPending := commitRegs_eiPending s e.regs

@[simp] theorem commit_cpiPending (e : Effect) (next : Word) (s : State) :
    (commit e next s).cpiPending = s.cpiPending := commitRegs_cpiPending s e.regs

@[simp] theorem commit_copRequests (e : Effect) (next : Word) (s : State) :
    (commit e next s).copRequests = s.copRequests ++ e.cop.toList := rfl

@[simp] theorem commit_copAnswers (e : Effect) (next : Word) (s : State) :
    (commit e next s).copAnswers = s.copAnswers.drop e.copReads := rfl

@[simp] theorem commit_copDisabled (e : Effect) (next : Word) (s : State) :
    (commit e next s).copDisabled = s.copDisabled := commitRegs_copDisabled s e.regs

@[simp] theorem commit_deviceAccesses (e : Effect) (next : Word) (s : State) :
    (commit e next s).deviceAccesses = s.deviceAccesses ++ e.device := rfl

@[simp] theorem commit_deviceAnswers (e : Effect) (next : Word) (s : State) :
    (commit e next s).deviceAnswers = s.deviceAnswers.drop e.deviceReads := rfl

@[simp] theorem commit_platform (e : Effect) (next : Word) (s : State) :
    (commit e next s).platform = s.platform := commitRegs_platform s e.regs

@[simp] theorem commit_draws (e : Effect) (next : Word) (s : State) :
    (commit e next s).draws = if e.draws then s.draws + 1 else s.draws := rfl

/-- The register storage after a commit. -/
@[simp] theorem readSlot_commit (e : Effect) (next : Word) (s : State) (sl : Slot) :
    readSlot (commit e next s) sl = readSlot (commitRegs s e.regs) sl := by
  cases sl <;> rfl

/-! ### EIT entry -/

@[simp] theorem enterEIT_gpr (ev : Event) (ret : Word) (s : State) :
    (enterEIT ev ret s).gpr = s.gpr := rfl

@[simp] theorem enterEIT_spi (ev : Event) (ret : Word) (s : State) :
    (enterEIT ev ret s).spi = s.spi := rfl

@[simp] theorem enterEIT_spu (ev : Event) (ret : Word) (s : State) :
    (enterEIT ev ret s).spu = s.spu := rfl

@[simp] theorem enterEIT_psw (ev : Event) (ret : Word) (s : State) :
    (enterEIT ev ret s).psw = withCond (entryPsw (eventEntry s.platform ev).clearsSM s.psw) false := rfl

@[simp] theorem enterEIT_evb (ev : Event) (ret : Word) (s : State) :
    (enterEIT ev ret s).evb = s.evb := rfl

@[simp] theorem enterEIT_evbWritten (ev : Event) (ret : Word) (s : State) :
    (enterEIT ev ret s).evbWritten = s.evbWritten := by
  simp [enterEIT, entryEffect]

@[simp] theorem enterEIT_bpc (ev : Event) (ret : Word) (s : State) :
    (enterEIT ev ret s).bpc = ret &&& 0xFFFFFFFE := rfl

@[simp] theorem enterEIT_acc0 (ev : Event) (ret : Word) (s : State) :
    (enterEIT ev ret s).acc0 = s.acc0 := rfl

@[simp] theorem enterEIT_acc1 (ev : Event) (ret : Word) (s : State) :
    (enterEIT ev ret s).acc1 = s.acc1 := rfl

@[simp] theorem enterEIT_pc (ev : Event) (ret : Word) (s : State) :
    (enterEIT ev ret s).pc = vectorAddress s ev := rfl

@[simp] theorem enterEIT_lock (ev : Event) (ret : Word) (s : State) :
    (enterEIT ev ret s).lock = s.lock := rfl

@[simp] theorem enterEIT_mem (ev : Event) (ret : Word) (s : State) :
    (enterEIT ev ret s).mem = s.mem := rfl

@[simp] theorem enterEIT_written (ev : Event) (ret : Word) (s : State) :
    (enterEIT ev ret s).written = s.written := rfl

@[simp] theorem enterEIT_resetRequest (ev : Event) (ret : Word) (s : State) :
    (enterEIT ev ret s).resetRequest = s.resetRequest := rfl

@[simp] theorem enterEIT_eiPending (ev : Event) (ret : Word) (s : State) :
    (enterEIT ev ret s).eiPending = s.eiPending := rfl

@[simp] theorem enterEIT_cpiPending (ev : Event) (ret : Word) (s : State) :
    (enterEIT ev ret s).cpiPending = s.cpiPending := rfl

@[simp] theorem enterEIT_copRequests (ev : Event) (ret : Word) (s : State) :
    (enterEIT ev ret s).copRequests = s.copRequests := by
  simp [enterEIT, entryEffect]

@[simp] theorem enterEIT_copDisabled (ev : Event) (ret : Word) (s : State) :
    (enterEIT ev ret s).copDisabled = s.copDisabled := by
  simp [enterEIT, entryEffect]

@[simp] theorem enterEIT_copAnswers (ev : Event) (ret : Word) (s : State) :
    (enterEIT ev ret s).copAnswers = s.copAnswers := by
  simp [enterEIT, entryEffect]

@[simp] theorem enterEIT_deviceAnswers (ev : Event) (ret : Word) (s : State) :
    (enterEIT ev ret s).deviceAnswers = s.deviceAnswers := by
  simp [enterEIT, entryEffect]

@[simp] theorem enterEIT_deviceAccesses (ev : Event) (ret : Word) (s : State) :
    (enterEIT ev ret s).deviceAccesses = s.deviceAccesses := by
  simp [enterEIT, entryEffect]

@[simp] theorem enterEIT_platform (ev : Event) (ret : Word) (s : State) :
    (enterEIT ev ret s).platform = s.platform := rfl

@[simp] theorem enterEIT_draws (ev : Event) (ret : Word) (s : State) :
    (enterEIT ev ret s).draws = s.draws := rfl

@[simp] theorem readSlot_enterEIT (ev : Event) (ret : Word) (s : State) (sl : Slot) :
    readSlot (enterEIT ev ret s) sl = readSlot s sl := by
  cases sl <;> rfl

/-! ### Reset taken by the step -/

@[simp] theorem takeReset_pc (s : State) : (takeReset s).pc = 0 := rfl

@[simp] theorem takeReset_evb (s : State) : (takeReset s).evb = 0 := rfl

@[simp] theorem takeReset_evbWritten (s : State) : (takeReset s).evbWritten = false := rfl

@[simp] theorem takeReset_psw (s : State) : (takeReset s).psw = resetPsw s.draws := rfl

@[simp] theorem takeReset_mem (s : State) : (takeReset s).mem = s.mem := rfl

@[simp] theorem takeReset_written (s : State) : (takeReset s).written = [] := rfl

@[simp] theorem takeReset_resetRequest (s : State) : (takeReset s).resetRequest = false := rfl

@[simp] theorem takeReset_eiPending (s : State) : (takeReset s).eiPending = s.eiPending := rfl

@[simp] theorem takeReset_cpiPending (s : State) : (takeReset s).cpiPending = s.cpiPending := rfl

@[simp] theorem takeReset_copRequests (s : State) : (takeReset s).copRequests = s.copRequests := rfl

@[simp] theorem takeReset_copDisabled (s : State) : (takeReset s).copDisabled = s.copDisabled := rfl

@[simp] theorem takeReset_copAnswers (s : State) : (takeReset s).copAnswers = s.copAnswers := rfl

@[simp] theorem takeReset_deviceAnswers (s : State) : (takeReset s).deviceAnswers = s.deviceAnswers := rfl

@[simp] theorem takeReset_deviceAccesses (s : State) : (takeReset s).deviceAccesses = s.deviceAccesses := rfl

@[simp] theorem takeReset_platform (s : State) : (takeReset s).platform = s.platform := rfl

@[simp] theorem takeReset_draws (s : State) : (takeReset s).draws = s.draws + 1 := rfl

@[simp] theorem takeReset_bpc (s : State) : (takeReset s).bpc = Config.freeWord s.draws 5 &&& 0xFFFFFFFE := rfl

/-! ### Loading a word, and the fetch word -/

@[simp] theorem loadWord_gpr (s : State) (a w : Word) : (loadWord s a w).gpr = s.gpr := rfl

@[simp] theorem loadWord_spi (s : State) (a w : Word) : (loadWord s a w).spi = s.spi := rfl

@[simp] theorem loadWord_spu (s : State) (a w : Word) : (loadWord s a w).spu = s.spu := rfl

@[simp] theorem loadWord_psw (s : State) (a w : Word) : (loadWord s a w).psw = s.psw := rfl

@[simp] theorem loadWord_evb (s : State) (a w : Word) : (loadWord s a w).evb = s.evb := rfl

@[simp] theorem loadWord_evbWritten (s : State) (a w : Word) : (loadWord s a w).evbWritten = s.evbWritten := rfl

@[simp] theorem loadWord_bpc (s : State) (a w : Word) : (loadWord s a w).bpc = s.bpc := rfl

@[simp] theorem loadWord_acc0 (s : State) (a w : Word) : (loadWord s a w).acc0 = s.acc0 := rfl

@[simp] theorem loadWord_acc1 (s : State) (a w : Word) : (loadWord s a w).acc1 = s.acc1 := rfl

@[simp] theorem loadWord_pc (s : State) (a w : Word) : (loadWord s a w).pc = s.pc := rfl

@[simp] theorem loadWord_lock (s : State) (a w : Word) : (loadWord s a w).lock = s.lock := rfl

@[simp] theorem loadWord_resetRequest (s : State) (a w : Word) : (loadWord s a w).resetRequest = s.resetRequest := rfl

@[simp] theorem loadWord_eiPending (s : State) (a w : Word) : (loadWord s a w).eiPending = s.eiPending := rfl

@[simp] theorem loadWord_cpiPending (s : State) (a w : Word) : (loadWord s a w).cpiPending = s.cpiPending := rfl

@[simp] theorem loadWord_copRequests (s : State) (a w : Word) : (loadWord s a w).copRequests = s.copRequests := rfl

@[simp] theorem loadWord_copDisabled (s : State) (a w : Word) : (loadWord s a w).copDisabled = s.copDisabled := rfl

@[simp] theorem loadWord_copAnswers (s : State) (a w : Word) : (loadWord s a w).copAnswers = s.copAnswers := rfl

@[simp] theorem loadWord_deviceAnswers (s : State) (a w : Word) : (loadWord s a w).deviceAnswers = s.deviceAnswers := rfl

@[simp] theorem loadWord_deviceAccesses (s : State) (a w : Word) : (loadWord s a w).deviceAccesses = s.deviceAccesses := rfl

@[simp] theorem loadWord_platform (s : State) (a w : Word) : (loadWord s a w).platform = s.platform := rfl

@[simp] theorem loadWord_draws (s : State) (a w : Word) : (loadWord s a w).draws = s.draws := rfl

@[simp] theorem loadWord_mem (s : State) (a w : Word) : (loadWord s a w).mem = writeBytes s.mem a (wordBytes w) := rfl

@[simp] theorem withFetchWord_gpr (s : State) (nbits w : Nat) : (s.withFetchWord nbits w).gpr = s.gpr := rfl

@[simp] theorem withFetchWord_spi (s : State) (nbits w : Nat) : (s.withFetchWord nbits w).spi = s.spi := rfl

@[simp] theorem withFetchWord_spu (s : State) (nbits w : Nat) : (s.withFetchWord nbits w).spu = s.spu := rfl

@[simp] theorem withFetchWord_psw (s : State) (nbits w : Nat) : (s.withFetchWord nbits w).psw = s.psw := rfl

@[simp] theorem withFetchWord_evb (s : State) (nbits w : Nat) : (s.withFetchWord nbits w).evb = s.evb := rfl

@[simp] theorem withFetchWord_bpc (s : State) (nbits w : Nat) : (s.withFetchWord nbits w).bpc = s.bpc := rfl

@[simp] theorem withFetchWord_acc0 (s : State) (nbits w : Nat) : (s.withFetchWord nbits w).acc0 = s.acc0 := rfl

@[simp] theorem withFetchWord_acc1 (s : State) (nbits w : Nat) : (s.withFetchWord nbits w).acc1 = s.acc1 := rfl

@[simp] theorem withFetchWord_lock (s : State) (nbits w : Nat) : (s.withFetchWord nbits w).lock = s.lock := rfl

@[simp] theorem withFetchWord_platform (s : State) (nbits w : Nat) : (s.withFetchWord nbits w).platform = s.platform := rfl

@[simp] theorem withFetchWord_copRequests (s : State) (nbits w : Nat) : (s.withFetchWord nbits w).copRequests = s.copRequests := rfl

@[simp] theorem withFetchWord_copDisabled (s : State) (nbits w : Nat) : (s.withFetchWord nbits w).copDisabled = s.copDisabled := rfl

@[simp] theorem withFetchWord_copAnswers (s : State) (nbits w : Nat) : (s.withFetchWord nbits w).copAnswers = s.copAnswers := rfl

@[simp] theorem withFetchWord_deviceAnswers (s : State) (nbits w : Nat) : (s.withFetchWord nbits w).deviceAnswers = s.deviceAnswers := rfl

@[simp] theorem withFetchWord_deviceAccesses (s : State) (nbits w : Nat) : (s.withFetchWord nbits w).deviceAccesses = s.deviceAccesses := rfl

@[simp] theorem withFetchWord_draws (s : State) (nbits w : Nat) : (s.withFetchWord nbits w).draws = s.draws := rfl

@[simp] theorem withFetchWord_resetRequest (s : State) (nbits w : Nat) : (s.withFetchWord nbits w).resetRequest = false := rfl

/-! ### Effects of one read or write -/

@[simp] theorem withRead_of_memory {a : Word} {n : Nat} {s : State} (h : onDevice s.platform a n = false) (e : Effect) :
    withRead a n s e = e := by
  simp [withRead, h]

theorem withRead_of_device {a : Word} {n : Nat} {s : State} (h : onDevice s.platform a n = true) (e : Effect) :
    withRead a n s e
      = { e with device := e.device ++ [.read a n], deviceReads := 1, draws := e.draws || s.deviceAnswers.isEmpty } := by
  simp [withRead, h]

@[simp] theorem withWrite_of_memory {a : Word} {bs : List Byte} {s : State} (h : onDevice s.platform a bs.length = false)
    (e : Effect) : withWrite a bs s e = { e with store := some { addr := a, bytes := bs } } := by
  simp [withWrite, h]

theorem withWrite_of_device {a : Word} {bs : List Byte} {s : State} (h : onDevice s.platform a bs.length = true) (e : Effect) :
    withWrite a bs s e = { e with device := e.device ++ [.write a bs] } := by
  simp [withWrite, h]

@[simp] theorem dataRead_of_memory {a : Word} {n : Nat} {s : State} (h : onDevice s.platform a n = false) :
    dataRead a n s = memRead s.mem a n := by
  simp [dataRead, h]

@[simp] theorem memRead_one (m : Memory) (a : Word) : memRead m a 1 = (readByte m a).setWidth 32 := rfl

@[simp] theorem memRead_two (m : Memory) (a : Word) : memRead m a 2 = (readHalf m a).setWidth 32 := rfl

@[simp] theorem memRead_four (m : Memory) (a : Word) : memRead m a 4 = readWord m a := rfl

/-! ### Effects of one register or flag -/

@[simp] theorem setReg_regs (s : State) (r : RegNum) (v : Word) : (setReg s r v).regs = [(slotOf s r, v)] := rfl

@[simp] theorem setCond_cond (c : Bool) : (setCond c).cond = some c := rfl

theorem slotOf_of_psw_eq {s t : State} (h : t.psw = s.psw) (r : RegNum) : slotOf t r = slotOf s r := by
  simp [slotOf, h]

end Sys2Proof.Machine
end

