-- ==== Sys2Proof/Laws/Ops.lean ====
section
/-! SUPPORT. What each shared operation can do, once: `finish`, the checks, the frame of a commit, EIT entry, and `exec` as
`finish` of the instruction's action. -/

namespace Sys2Proof.Machine

/-- Every meaning is its action carried out at the instruction's length. -/
theorem exec_eq_finish (i : Instr) (s : State) : exec i s = finish (instrLength i) (action .alone i s) s := by
  cases i <;> rfl

@[simp] theorem finish_writes (len : Word) (e : Effect) (s : State) :
    finish len (.writes e) s = .next (commit e (s.pc + len) s) := rfl

@[simp] theorem finish_raises (len : Word) (ev : Event) (s : State) :
    finish len (.raises ev) s = .next (enterEIT ev (savedPc s.platform ev s.pc (s.pc + len)) s) := rfl

/-- If an action answers a next state, it committed its writes or entered EIT. -/
theorem finish_eq_next {len : Word} {a : Action} {s t : State} (h : finish len a s = .next t) :
    (∃ e, a = .writes e ∧ t = commit e (s.pc + len) s) ∨ (∃ ev, a = .raises ev ∧ t = enterEIT ev (savedPc s.platform ev s.pc (s.pc + len)) s) := by
  cases a with
  | writes e => exact .inl ⟨e, rfl, by simpa [finish] using h.symm⟩
  | raises ev => exact .inr ⟨ev, rfl, by simpa [finish] using h.symm⟩
  | stops st => cases st <;> simp [finish, stopResult] at h

/-- If an instruction answers a next state, its action wrote or raised. -/
theorem exec_eq_next {i : Instr} {s t : State} (h : exec i s = .next t) :
    (∃ e, action .alone i s = .writes e ∧ t = commit e (s.pc + instrLength i) s)
      ∨ (∃ ev, action .alone i s = .raises ev
        ∧ t = enterEIT ev (savedPc s.platform ev s.pc (s.pc + instrLength i)) s) :=
  finish_eq_next ((exec_eq_finish i s).symm.trans h)

/-! ### The checks -/

/-- An access that is aligned, allowed and mapped goes on. -/
theorem checked_of_accessible {k : Access} {n : Nat} {a : Word} {s : State} (h : Accessible k n a s) (act : Action) :
    checked k n a s act = act := by
  simp [checked, h.1, h.2.1, h.2.2.1]

/-- An access to a device goes on too. -/
theorem checked_of_reachesDevice {k : Access} {n : Nat} {a : Word} {s : State} (h : ReachesDevice k n a s) (act : Action) :
    checked k n a s act = act := by
  simp [checked, h.1, h.2.1, h.2.2.1]

/-- A misaligned access raises AE. -/
theorem checked_of_misaligned {n : Nat} {a : Word} (h : misaligned n a = true) (k : Access) (s : State) (act : Action) :
    checked k n a s act = .raises .ae := by
  simp [checked, h]

/-- A checked access raises AE, is turned away by the platform's rule for user mode, stops, or goes on. -/
theorem checked_cases (k : Access) (n : Nat) (a : Word) (s : State) (act : Action) :
    (∃ ev, checked k n a s act = .raises ev) ∨ (∃ st, checked k n a s act = .stops st) ∨ checked k n a s act = act := by
  unfold checked outsideAccess
  split
  · exact .inl ⟨_, rfl⟩
  · split
    · rename_i out h
      split at h
      · split at h
        · cases h
        · cases h; exact .inl ⟨_, rfl⟩
        · cases h; exact .inr (.inl ⟨_, rfl⟩)
      · cases h
    · split
      · exact .inr (.inl ⟨_, rfl⟩)
      · exact .inr (.inr rfl)

theorem privileged_of_user {s : State} (h : userMode s = true) (act : Action) : privileged s act = .raises .pie := by
  simp [privileged, h]

theorem privileged_of_supervisor {s : State} (h : userMode s = false) (act : Action) : privileged s act = act := by
  simp [privileged, h]

theorem withCoprocessor_of_enabled {cpid : BitVec 12} {s : State} (h : copIsDisabled s cpid = false) (act : Action) :
    withCoprocessor cpid s act = act := by
  simp [withCoprocessor, h]

theorem withCoprocessor_of_disabled {cpid : BitVec 12} {s : State} (h : copIsDisabled s cpid = true) (act : Action) :
    withCoprocessor cpid s act = .raises .cde := by
  simp [withCoprocessor, h]

/-- A reserved control register number stops, raises, or reads as a constant. -/
theorem reservedControl_cases (s : State) (cr : BitVec 4) (ok : Word → Action) :
    reservedControl s cr ok = .stops (.refuse (.reservedControlRegister cr)) ∨ (∃ ev, reservedControl s cr ok = .raises ev)
      ∨ ∃ v, reservedControl s cr ok = ok v := by
  unfold reservedControl
  split
  · exact .inl rfl
  · exact .inr (.inl ⟨_, rfl⟩)
  · exact .inr (.inr ⟨_, rfl⟩)

/-- A PSW write stops, or goes on. -/
theorem checkedPm_cases (s : State) (new : Word) (act : Action) :
    checkedPm s new act = .stops (.refuse .pmChangeOutsideUserSpace) ∨ checkedPm s new act = act := by
  unfold checkedPm
  split
  · exact .inl rfl
  · exact .inr rfl

/-! ### The condition bit -/

@[simp] theorem psw_c_withCond (p : Word) (c : Bool) : psw_c (withCond p c) = c := by
  cases c <;> simp [psw_c, withCond, boolWord]

/-- Writing C leaves every other bit of the PSW. -/
theorem getLsbD_withCond_of_ne (p : Word) (c : Bool) {i : Nat} (h : i ≠ 0) : (withCond p c).getLsbD i = p.getLsbD i := by
  by_cases hi : i < 32
  · have one : ∀ j, j < 32 → (0xFFFFFFFE#32).getLsbD j = decide (j ≠ 0) := by decide
    have two : ∀ j, j < 32 → j ≠ 0 → (1#32).getLsbD j = false := by decide
    have hm := one i hi
    simp only [h, ne_eq, not_false_eq_true, decide_true] at hm
    have ht : (boolWord c).getLsbD i = false := by
      cases c with
      | false => simp [boolWord]
      | true => exact two i hi h
    simp [withCond, hm, ht]
  · rw [BitVec.getLsbD_of_ge _ _ (by omega), BitVec.getLsbD_of_ge _ _ (by omega)]

/-! ### The frame of a commit -/

/-- What an effect is allowed to write. -/
def effectFootprint (e : Effect) : Footprint where
  slots := e.regs.map (·.1)
  cond := e.cond.isSome
  psw := e.psw.isSome
  evb := e.evb.isSome
  bpc := e.bpc.isSome
  acc0 := e.acc0.isSome
  acc1 := e.acc1.isSome
  lock := e.lock.isSome
  bytes := match e.store with
    | some st => byteRange st.addr st.bytes.length
    | none => []
  cop := e.cop.isSome || e.copReads != 0
  device := !e.device.isEmpty || e.deviceReads != 0
  draws := e.draws

/-- A commit changes nothing outside its effect's footprint. -/
theorem frame_commit (e : Effect) (next : Word) (s : State) : Frame (effectFootprint e) s (commit e next s) where
  slots sl h := by
    rw [readSlot_commit, readSlot_commitRegs_of_notMem]
    intro w hw heq
    exact h (List.mem_map.mpr ⟨w, hw, heq⟩)
  psw h i hi := by
    have hp : e.psw = none := by simpa [effectFootprint] using h
    simp only [commit_psw, commitPsw, hp, Option.getD_none]
    split
    · exact getLsbD_withCond_of_ne _ _ hi
    · rfl
  cond hp hc := by
    have hp : e.psw = none := by simpa [effectFootprint] using hp
    have hc : e.cond = none := by simpa [effectFootprint] using hc
    simp [commitPsw, hp, hc]
  evb h := by
    have h : e.evb = none := by simpa [effectFootprint] using h
    simp [h]
  bpc h := by
    have h : e.bpc = none := by simpa [effectFootprint] using h
    simp [h]
  acc0 h := by
    have h : e.acc0 = none := by simpa [effectFootprint] using h
    simp [h]
  acc1 h := by
    have h : e.acc1 = none := by simpa [effectFootprint] using h
    simp [h]
  lock h := by
    have h : e.lock = none := by simpa [effectFootprint] using h
    simp [h]
  mem a h := by
    cases hs : e.store with
    | none => simp [commitMem, hs]
    | some st =>
      simp only [effectFootprint, hs] at h
      simp only [commit_mem, commitMem, hs]
      exact readByte_writeBytes_of_notMem _ _ _ _ h
  written n := by
    cases hs : e.store with
    | none => simp [effectFootprint, commitWritten, hs]
    | some st =>
      simp only [effectFootprint, commit_written, commitWritten, hs]
      exact mem_noteWritten _ _ _ _
  cop h := by
    obtain ⟨h1, h2⟩ : e.cop = none ∧ e.copReads = 0 := by simpa [effectFootprint] using h
    simp [h1, h2]
  device h := by
    obtain ⟨h1, h2⟩ : e.device = [] ∧ e.deviceReads = 0 := by simpa [effectFootprint] using h
    simp [h1, h2]
  draws h := by
    have h : e.draws = false := h
    simp [h]
  inputs := ⟨by simp, by simp, by simp, by simp⟩
  platform := by simp

/-- EIT entry writes the PSW, BPC and the pc, and nothing else (R350). -/
theorem frame_enterEIT (ev : Event) (ret : Word) (s : State) : Frame { psw := true, bpc := true } s (enterEIT ev ret s) where
  slots sl _ := by simp
  psw h := by cases h
  cond h := by cases h
  evb _ := by simp
  bpc h := by cases h
  acc0 _ := by simp
  acc1 _ := by simp
  lock _ := by simp
  mem a _ := by simp
  written n := by simp
  cop _ := by simp
  device _ := by simp
  draws _ := by simp
  inputs := ⟨by simp, by simp, by simp, by simp⟩
  platform := by simp

end Sys2Proof.Machine
end

