-- ==== Sys2Proof/Laws/Parallel.lean ====
section
/-! SUPPORT. What a parallel pair can do, once: the outcome of `execPair`, what the merged register writes and the merged PSW read
as, and when a meaning does not depend on where it stands. -/

namespace Sys2Proof.Machine

/-! ### What a check lets through -/

theorem checked_eq_writes {k : Access} {n : Nat} {a : Word} {s : State} {act : Action} {e : Effect}
    (h : checked k n a s act = .writes e) : act = .writes e := by
  rcases checked_cases k n a s act with ⟨ev, h'⟩ | ⟨st, h'⟩ | h' <;> rw [h'] at h
  · cases h
  · cases h
  · exact h

theorem privileged_eq_writes {s : State} {act : Action} {e : Effect} (h : privileged s act = .writes e) : act = .writes e := by
  unfold privileged at h
  split at h
  · cases h
  · exact h

theorem checkedPm_eq_writes {s : State} {new : Word} {act : Action} {e : Effect} (h : checkedPm s new act = .writes e) :
    act = .writes e := by
  rcases checkedPm_cases s new act with h' | h' <;> rw [h'] at h
  · cases h
  · exact h

/-- Only TRAP, SC and SNC know whether they stand in a pair. -/
theorem action_alone_eq_pair {i : Instr} (s : State) (hsc : i ≠ .sc) (hsnc : i ≠ .snc) (htrap : ∀ n, i ≠ .trap n) :
    action .alone i s = action .pair i s := by
  cases i <;> first | rfl | exact absurd rfl hsc | exact absurd rfl hsnc | exact absurd rfl (htrap _)

/-! ### The outcome of a pair -/

/-- Two halves that write, neither cancelled: the merged effect. -/
theorem execPair_of_writes {u l : Instr} {s : State} {eu el : Effect} (hu : action .pair u s = .writes eu)
    (hc : eu.cancels = false) (hl : action .pair l s = .writes el) :
    execPair u l s = .next (commit (mergeEffects s.draws eu el) (s.pc + 4) s) := by
  simp [execPair, hu, hl, pairActions, hc]

/-- A half that is cancelled leaves the upper half's writes. -/
theorem execPair_of_cancels {u l : Instr} {s : State} {eu : Effect} (hu : action .pair u s = .writes eu) (hc : eu.cancels = true) :
    execPair u l s = .next (commit eu (s.pc + 4) s) := by
  cases hl : action .pair l s <;> simp [execPair, hu, hl, pairActions, hc]

/-- If a pair answers a next state, it committed the upper half's writes, or both halves', or entered EIT. -/
theorem execPair_eq_next {u l : Instr} {s t : State} (h : execPair u l s = .next t) :
    (∃ eu, action .pair u s = .writes eu ∧ eu.cancels = true ∧ t = commit eu (s.pc + 4) s)
      ∨ (∃ eu el, action .pair u s = .writes eu ∧ eu.cancels = false ∧ action .pair l s = .writes el
        ∧ t = commit (mergeEffects s.draws eu el) (s.pc + 4) s)
      ∨ ∃ ev, (action .pair u s = .raises ev ∨ action .pair l s = .raises ev)
        ∧ t = enterEIT ev (savedPc s.platform ev s.pc (s.pc + 4)) s := by
  rcases finish_eq_next h with ⟨e, he, rfl⟩ | ⟨ev, he, rfl⟩
  · cases hu : action .pair u s with
    | stops st => simp [pairActions, hu] at he
    | raises ev => simp [pairActions, hu] at he
    | writes eu =>
      cases hc : eu.cancels with
      | true =>
        refine .inl ⟨eu, rfl, hc, ?_⟩
        cases hl : action .pair l s <;> simp [pairActions, hu, hl, hc] at he <;> rw [he]
      | false =>
        cases hl : action .pair l s with
        | writes el => simp [pairActions, hu, hl, hc] at he; exact .inr (.inl ⟨eu, el, rfl, hc, rfl, by rw [he]⟩)
        | raises ev => simp [pairActions, hu, hl, hc] at he
        | stops st => simp [pairActions, hu, hl, hc] at he
  · refine .inr (.inr ⟨ev, ?_, rfl⟩)
    cases hu : action .pair u s with
    | stops st => simp [pairActions, hu] at he
    | raises ev' => simp [pairActions, hu] at he; exact .inl (by rw [he])
    | writes eu =>
      cases hl : action .pair l s <;> simp only [pairActions, hu, hl] at he <;> split at he <;> simp_all

/-! ### The merged registers -/

/-- Storage that a list of writes does not name keeps its value. -/
theorem readSlot_commitRegs_of_writesSlot {s : State} {regs : List (Slot × Word)} {sl : Slot} (h : writesSlot regs sl = false) :
    readSlot (commitRegs s regs) sl = readSlot s sl := by
  apply readSlot_commitRegs_of_notMem
  intro w hw he
  simp only [writesSlot, List.any_eq_false] at h
  exact h w hw (by simp [he])

/-- What storage reads as after a list of writes depends on what it held only where no write names it. -/
theorem readSlot_commitRegs_congr {s t : State} {regs : List (Slot × Word)} {sl : Slot}
    (h : readSlot s sl = readSlot t sl ∨ writesSlot regs sl = true) :
    readSlot (commitRegs s regs) sl = readSlot (commitRegs t regs) sl := by
  induction regs generalizing s t with
  | nil =>
    rcases h with h | h
    · exact h
    · simp [writesSlot] at h
  | cons w r ih =>
    rw [commitRegs_cons, commitRegs_cons]
    apply ih
    by_cases hw : w.1 = sl
    · left
      subst hw
      simp
    · rcases h with h | h
      · left
        rw [readSlot_writeSlot_of_ne _ _ (Ne.symm hw), readSlot_writeSlot_of_ne _ _ (Ne.symm hw), h]
      · right
        simp only [writesSlot, List.any_cons, Bool.or_eq_true] at h ⊢
        rcases h with h | h
        · exact absurd (by simpa using h) hw
        · exact h

theorem commitRegs_append (s : State) (a b : List (Slot × Word)) : commitRegs s (a ++ b) = commitRegs (commitRegs s a) b := by
  simp [commitRegs, List.foldl_append]

/-- Storage that the lower half does not write holds what the upper half writes. -/
theorem readSlot_mergeRegs_of_upper {s : State} {n : Nat} {u l : List (Slot × Word)} {sl : Slot} (h : writesSlot l sl = false) :
    readSlot (commitRegs s (mergeRegs n u l)) sl = readSlot (commitRegs s u) sl := by
  have upper : ∀ t : State,
      readSlot (commitRegs t (u.map (fun w => if writesSlot l w.1 then (w.1, Config.freeWord n 2) else w))) sl
        = readSlot (commitRegs t u) sl := by
    intro t
    induction u generalizing t with
    | nil => rfl
    | cons w r ih =>
      rw [List.map_cons, commitRegs_cons, commitRegs_cons, ih]
      apply readSlot_commitRegs_congr
      left
      by_cases hw : writesSlot l w.1 = true
      · have hne : sl ≠ w.1 := by
          rintro rfl
          rw [hw] at h
          cases h
        simp only [hw, if_true]
        rw [readSlot_writeSlot_of_ne _ _ hne, readSlot_writeSlot_of_ne _ _ hne]
      · simp [hw]
  unfold mergeRegs
  rw [commitRegs_append, readSlot_commitRegs_of_writesSlot, upper]
  simp only [writesSlot, List.any_eq_false, List.mem_filter] at h ⊢
  exact fun w hw => h w hw.1

/-- Storage that the upper half does not write holds what the lower half writes. -/
theorem readSlot_mergeRegs_of_lower {s : State} {n : Nat} {u l : List (Slot × Word)} {sl : Slot} (h : writesSlot u sl = false) :
    readSlot (commitRegs s (mergeRegs n u l)) sl = readSlot (commitRegs s l) sl := by
  have lower : ∀ t : State,
      readSlot (commitRegs t (l.filter (fun w => !writesSlot u w.1))) sl = readSlot (commitRegs t l) sl := by
    intro t
    induction l generalizing t with
    | nil => rfl
    | cons w r ih =>
      rw [List.filter_cons, commitRegs_cons]
      by_cases hw : writesSlot u w.1 = true
      · have hne : sl ≠ w.1 := by
          rintro rfl
          rw [hw] at h
          cases h
        simp only [hw, Bool.not_true, Bool.false_eq_true, if_false]
        rw [ih]
        apply readSlot_commitRegs_congr
        left
        rw [readSlot_writeSlot_of_ne _ _ hne]
      · simp only [hw, Bool.not_false, if_true, commitRegs_cons]
        exact ih _
  unfold mergeRegs
  rw [commitRegs_append, lower]
  apply readSlot_commitRegs_congr
  left
  apply readSlot_commitRegs_of_writesSlot
  unfold writesSlot at h ⊢
  rw [List.any_map, ← h]
  congr 1
  funext w
  simp only [Function.comp]
  split <;> rfl

/-! ### The merged PSW -/

/-- Every bit of the PSW but C comes from the write of the whole register. -/
theorem getLsbD_commitPsw_of_ne (p : Word) (e : Effect) {b : Nat} (h : b ≠ 0) :
    (commitPsw p e).getLsbD b = (e.psw.getD p).getLsbD b := by
  unfold commitPsw
  split
  · exact getLsbD_withCond_of_ne _ _ h
  · rfl

@[simp] theorem mergeCond_none_left (n : Nat) (c : Option Bool) : mergeCond n none c = c := rfl

@[simp] theorem mergeCond_none_right (n : Nat) (c : Option Bool) : mergeCond n c none = c := by
  cases c <;> rfl

end Sys2Proof.Machine
end

