-- ==== Sys2Proof/Laws/PerInstr.lean ====
section
/-! SUPPORT. Statements about every instruction as syntax, one lemma per constructor. -/

namespace Sys2Proof.Laws.CategoryLength

/-- An instruction has a category of Table 2.5.1 exactly when its form is 16 bits long (R312, R313). -/
def Statement (i : Instr) : Prop :=
  ∀ c : Encoding, (category i).isSome = match encode c i with
    | some (.half _) => true
    | _ => false

theorem ldInd (dest src : RegNum) : Statement (.ldInd dest src) := fun _ => rfl

theorem ldPost (dest src : RegNum) : Statement (.ldPost dest src) := fun _ => rfl

theorem ldDisp (dest : RegNum) (disp16 : BitVec 16) (src : RegNum) : Statement (.ldDisp dest disp16 src) := fun _ => rfl

theorem ldbInd (dest src : RegNum) : Statement (.ldbInd dest src) := fun _ => rfl

theorem ldbDisp (dest : RegNum) (disp16 : BitVec 16) (src : RegNum) : Statement (.ldbDisp dest disp16 src) := fun _ => rfl

theorem ldubInd (dest src : RegNum) : Statement (.ldubInd dest src) := fun _ => rfl

theorem ldubDisp (dest : RegNum) (disp16 : BitVec 16) (src : RegNum) : Statement (.ldubDisp dest disp16 src) := fun _ => rfl

theorem ldhInd (dest src : RegNum) : Statement (.ldhInd dest src) := fun _ => rfl

theorem ldhDisp (dest : RegNum) (disp16 : BitVec 16) (src : RegNum) : Statement (.ldhDisp dest disp16 src) := fun _ => rfl

theorem lduhInd (dest src : RegNum) : Statement (.lduhInd dest src) := fun _ => rfl

theorem lduhDisp (dest : RegNum) (disp16 : BitVec 16) (src : RegNum) : Statement (.lduhDisp dest disp16 src) := fun _ => rfl

theorem lock (dest src : RegNum) : Statement (.lock dest src) := fun _ => rfl

theorem stInd (src1 src2 : RegNum) : Statement (.stInd src1 src2) := fun _ => rfl

theorem stPreInc (src1 src2 : RegNum) : Statement (.stPreInc src1 src2) := fun _ => rfl

theorem stPreDec (src1 src2 : RegNum) : Statement (.stPreDec src1 src2) := fun _ => rfl

theorem stDisp (src1 : RegNum) (disp16 : BitVec 16) (src2 : RegNum) : Statement (.stDisp src1 disp16 src2) := fun _ => rfl

theorem stbInd (src1 src2 : RegNum) : Statement (.stbInd src1 src2) := fun _ => rfl

theorem stbPost (src1 src2 : RegNum) : Statement (.stbPost src1 src2) := fun _ => rfl

theorem stbDisp (src1 : RegNum) (disp16 : BitVec 16) (src2 : RegNum) : Statement (.stbDisp src1 disp16 src2) := fun _ => rfl

theorem sthInd (src1 src2 : RegNum) : Statement (.sthInd src1 src2) := fun _ => rfl

theorem sthPost (src1 src2 : RegNum) : Statement (.sthPost src1 src2) := fun _ => rfl

theorem sthDisp (src1 : RegNum) (disp16 : BitVec 16) (src2 : RegNum) : Statement (.sthDisp src1 disp16 src2) := fun _ => rfl

theorem unlock (src1 src2 : RegNum) : Statement (.unlock src1 src2) := fun _ => rfl

theorem ld24 (dest : RegNum) (imm24 : BitVec 24) : Statement (.ld24 dest imm24) := fun _ => rfl

theorem ldi8 (dest : RegNum) (imm8 : BitVec 8) : Statement (.ldi8 dest imm8) := fun _ => rfl

theorem ldi16 (dest : RegNum) (imm16 : BitVec 16) : Statement (.ldi16 dest imm16) := fun _ => rfl

theorem mv (dest src : RegNum) : Statement (.mv dest src) := fun _ => rfl

theorem mvfc (dest : RegNum) (cr : BitVec 4) : Statement (.mvfc dest cr) := fun _ => rfl

theorem mvtc (src : RegNum) (cr : BitVec 4) : Statement (.mvtc src cr) := fun _ => rfl

theorem seth (dest : RegNum) (imm16 : BitVec 16) : Statement (.seth dest imm16) := fun _ => rfl

theorem cmp (src1 src2 : RegNum) : Statement (.cmp src1 src2) := fun _ => rfl

theorem cmpeq (src1 src2 : RegNum) : Statement (.cmpeq src1 src2) := fun _ => rfl

theorem cmpi (src : RegNum) (imm16 : BitVec 16) : Statement (.cmpi src imm16) := fun _ => rfl

theorem cmpu (src1 src2 : RegNum) : Statement (.cmpu src1 src2) := fun _ => rfl

theorem cmpui (src : RegNum) (imm16 : BitVec 16) : Statement (.cmpui src imm16) := fun _ => rfl

theorem cmpz (src : RegNum) : Statement (.cmpz src) := fun _ => rfl

theorem pcmpbz (src : RegNum) : Statement (.pcmpbz src) := fun _ => rfl

theorem add (dest src : RegNum) : Statement (.add dest src) := fun _ => rfl

theorem add3 (dest src : RegNum) (imm16 : BitVec 16) : Statement (.add3 dest src imm16) := fun _ => rfl

theorem addi (dest : RegNum) (imm8 : BitVec 8) : Statement (.addi dest imm8) := fun _ => rfl

theorem addv (dest src : RegNum) : Statement (.addv dest src) := fun _ => rfl

theorem addv3 (dest src : RegNum) (imm16 : BitVec 16) : Statement (.addv3 dest src imm16) := fun _ => rfl

theorem addx (dest src : RegNum) : Statement (.addx dest src) := fun _ => rfl

theorem neg (dest src : RegNum) : Statement (.neg dest src) := fun _ => rfl

theorem sub (dest src : RegNum) : Statement (.sub dest src) := fun _ => rfl

theorem subv (dest src : RegNum) : Statement (.subv dest src) := fun _ => rfl

theorem subx (dest src : RegNum) : Statement (.subx dest src) := fun _ => rfl

theorem and (dest src : RegNum) : Statement (.and dest src) := fun _ => rfl

theorem and3 (dest src : RegNum) (imm16 : BitVec 16) : Statement (.and3 dest src imm16) := fun _ => rfl

theorem not (dest src : RegNum) : Statement (.not dest src) := fun _ => rfl

theorem or (dest src : RegNum) : Statement (.or dest src) := fun _ => rfl

theorem or3 (dest src : RegNum) (imm16 : BitVec 16) : Statement (.or3 dest src imm16) := fun _ => rfl

theorem xor (dest src : RegNum) : Statement (.xor dest src) := fun _ => rfl

theorem xor3 (dest src : RegNum) (imm16 : BitVec 16) : Statement (.xor3 dest src imm16) := fun _ => rfl

theorem mul (dest src : RegNum) : Statement (.mul dest src) := fun _ => rfl

theorem div (dest src : RegNum) : Statement (.div dest src) := fun _ => rfl

theorem divb (dest src : RegNum) : Statement (.divb dest src) := fun _ => rfl

theorem divh (dest src : RegNum) : Statement (.divh dest src) := fun _ => rfl

theorem divu (dest src : RegNum) : Statement (.divu dest src) := fun _ => rfl

theorem divub (dest src : RegNum) : Statement (.divub dest src) := fun _ => rfl

theorem divuh (dest src : RegNum) : Statement (.divuh dest src) := fun _ => rfl

theorem rem (dest src : RegNum) : Statement (.rem dest src) := fun _ => rfl

theorem remb (dest src : RegNum) : Statement (.remb dest src) := fun _ => rfl

theorem remh (dest src : RegNum) : Statement (.remh dest src) := fun _ => rfl

theorem remu (dest src : RegNum) : Statement (.remu dest src) := fun _ => rfl

theorem remub (dest src : RegNum) : Statement (.remub dest src) := fun _ => rfl

theorem remuh (dest src : RegNum) : Statement (.remuh dest src) := fun _ => rfl

theorem sll (dest src : RegNum) : Statement (.sll dest src) := fun _ => rfl

theorem sll3 (dest src : RegNum) (imm16 : BitVec 16) : Statement (.sll3 dest src imm16) := fun _ => rfl

theorem slli (dest : RegNum) (imm5 : BitVec 5) : Statement (.slli dest imm5) := fun _ => rfl

theorem sra (dest src : RegNum) : Statement (.sra dest src) := fun _ => rfl

theorem sra3 (dest src : RegNum) (imm16 : BitVec 16) : Statement (.sra3 dest src imm16) := fun _ => rfl

theorem srai (dest : RegNum) (imm5 : BitVec 5) : Statement (.srai dest imm5) := fun _ => rfl

theorem srl (dest src : RegNum) : Statement (.srl dest src) := fun _ => rfl

theorem srl3 (dest src : RegNum) (imm16 : BitVec 16) : Statement (.srl3 dest src imm16) := fun _ => rfl

theorem srli (dest : RegNum) (imm5 : BitVec 5) : Statement (.srli dest imm5) := fun _ => rfl

theorem bc8 (pcdisp8 : BitVec 8) : Statement (.bc8 pcdisp8) := fun _ => rfl

theorem bc24 (pcdisp24 : BitVec 24) : Statement (.bc24 pcdisp24) := fun _ => rfl

theorem bcl8 (pcdisp8 : BitVec 8) : Statement (.bcl8 pcdisp8) := fun _ => rfl

theorem bcl24 (pcdisp24 : BitVec 24) : Statement (.bcl24 pcdisp24) := fun _ => rfl

theorem bl8 (pcdisp8 : BitVec 8) : Statement (.bl8 pcdisp8) := fun _ => rfl

theorem bl24 (pcdisp24 : BitVec 24) : Statement (.bl24 pcdisp24) := fun _ => rfl

theorem bnc8 (pcdisp8 : BitVec 8) : Statement (.bnc8 pcdisp8) := fun _ => rfl

theorem bnc24 (pcdisp24 : BitVec 24) : Statement (.bnc24 pcdisp24) := fun _ => rfl

theorem bncl8 (pcdisp8 : BitVec 8) : Statement (.bncl8 pcdisp8) := fun _ => rfl

theorem bncl24 (pcdisp24 : BitVec 24) : Statement (.bncl24 pcdisp24) := fun _ => rfl

theorem bra8 (pcdisp8 : BitVec 8) : Statement (.bra8 pcdisp8) := fun _ => rfl

theorem bra24 (pcdisp24 : BitVec 24) : Statement (.bra24 pcdisp24) := fun _ => rfl

theorem beq (src1 src2 : RegNum) (pcdisp16 : BitVec 16) : Statement (.beq src1 src2 pcdisp16) := fun _ => rfl

theorem bne (src1 src2 : RegNum) (pcdisp16 : BitVec 16) : Statement (.bne src1 src2 pcdisp16) := fun _ => rfl

theorem beqz (src : RegNum) (pcdisp16 : BitVec 16) : Statement (.beqz src pcdisp16) := fun _ => rfl

theorem bnez (src : RegNum) (pcdisp16 : BitVec 16) : Statement (.bnez src pcdisp16) := fun _ => rfl

theorem bltz (src : RegNum) (pcdisp16 : BitVec 16) : Statement (.bltz src pcdisp16) := fun _ => rfl

theorem bgez (src : RegNum) (pcdisp16 : BitVec 16) : Statement (.bgez src pcdisp16) := fun _ => rfl

theorem blez (src : RegNum) (pcdisp16 : BitVec 16) : Statement (.blez src pcdisp16) := fun _ => rfl

theorem bgtz (src : RegNum) (pcdisp16 : BitVec 16) : Statement (.bgtz src pcdisp16) := fun _ => rfl

theorem jc (src : RegNum) : Statement (.jc src) := fun _ => rfl

theorem jl (src : RegNum) : Statement (.jl src) := fun _ => rfl

theorem jmp (src : RegNum) : Statement (.jmp src) := fun _ => rfl

theorem jnc (src : RegNum) : Statement (.jnc src) := fun _ => rfl

theorem nop : Statement (.nop) := fun _ => rfl

theorem sc : Statement (.sc) := fun _ => rfl

theorem snc : Statement (.snc) := fun _ => rfl

theorem bclr (bitpos : BitVec 3) (disp16 : BitVec 16) (src : RegNum) : Statement (.bclr bitpos disp16 src) := fun _ => rfl

theorem bset (bitpos : BitVec 3) (disp16 : BitVec 16) (src : RegNum) : Statement (.bset bitpos disp16 src) := fun _ => rfl

theorem btst (bitpos : BitVec 3) (src : RegNum) : Statement (.btst bitpos src) := fun _ => rfl

theorem setpsw (imm8 : BitVec 8) : Statement (.setpsw imm8) := fun _ => rfl

theorem clrpsw (imm8 : BitVec 8) : Statement (.clrpsw imm8) := fun _ => rfl

theorem trap (imm4 : BitVec 4) : Statement (.trap imm4) := fun _ => rfl

theorem rte : Statement (.rte) := fun _ => rfl

theorem mulhi (src1 src2 : RegNum) (acc : BitVec 1) : Statement (.mulhi src1 src2 acc) := fun _ => rfl

theorem mullo (src1 src2 : RegNum) (acc : BitVec 1) : Statement (.mullo src1 src2 acc) := fun _ => rfl

theorem mulwhi (src1 src2 : RegNum) : Statement (.mulwhi src1 src2) := fun _ => rfl

theorem mulwlo (src1 src2 : RegNum) : Statement (.mulwlo src1 src2) := fun _ => rfl

theorem mulwu1 (src1 src2 : RegNum) : Statement (.mulwu1 src1 src2) := fun _ => rfl

theorem machi (src1 src2 : RegNum) (acc : BitVec 1) : Statement (.machi src1 src2 acc) := fun _ => rfl

theorem maclo (src1 src2 : RegNum) (acc : BitVec 1) : Statement (.maclo src1 src2 acc) := fun _ => rfl

theorem macwhi (src1 src2 : RegNum) : Statement (.macwhi src1 src2) := fun _ => rfl

theorem macwlo (src1 src2 : RegNum) : Statement (.macwlo src1 src2) := fun _ => rfl

theorem maclh1 (src1 src2 : RegNum) : Statement (.maclh1 src1 src2) := fun _ => rfl

theorem macwu1 (src1 src2 : RegNum) : Statement (.macwu1 src1 src2) := fun _ => rfl

theorem msblo (src1 src2 : RegNum) : Statement (.msblo src1 src2) := fun _ => rfl

theorem sadd : Statement (.sadd) := fun _ => rfl

theorem rac (accd accs : BitVec 1) (imm1 : Nat) : Statement (.rac accd accs imm1) := fun _ => rfl

theorem rach (accd accs : BitVec 1) (imm1 : Nat) : Statement (.rach accd accs imm1) := fun _ => rfl

theorem mvfachi (dest : RegNum) (accs : BitVec 1) : Statement (.mvfachi dest accs) := fun _ => rfl

theorem mvfaclo (dest : RegNum) (accs : BitVec 1) : Statement (.mvfaclo dest accs) := fun _ => rfl

theorem mvfacmi (dest : RegNum) (accs : BitVec 1) : Statement (.mvfacmi dest accs) := fun _ => rfl

theorem mvtachi (src : RegNum) (accd : BitVec 1) : Statement (.mvtachi src accd) := fun _ => rfl

theorem mvtaclo (src : RegNum) (accd : BitVec 1) : Statement (.mvtaclo src accd) := fun _ => rfl

theorem satb (dest src : RegNum) : Statement (.satb dest src) := fun _ => rfl

theorem sath (dest src : RegNum) : Statement (.sath dest src) := fun _ => rfl

theorem mvfcp (dest : RegNum) (cpr : BitVec 4) (inst cpid : BitVec 12) : Statement (.mvfcp dest cpr inst cpid) := fun _ => rfl

theorem mvtcp (src : RegNum) (cpr : BitVec 4) (inst cpid : BitVec 12) : Statement (.mvtcp src cpr inst cpid) := fun _ => rfl

theorem opecp (cprd cprs : BitVec 4) (inst cpid : BitVec 12) : Statement (.opecp cprd cprs inst cpid) := by
  intro c
  cases h : c.opecp <;> simp [encode, category, h]

end Sys2Proof.Laws.CategoryLength
end

