-- ==== Sys2Proof/Tests/Slice0.lean ====
section
/-! SUPPORT. The model's own tests, each on fixed values, and the witnesses that the hypotheses of the statements can be met.
Expected results are those of `95_test_vectors.md` and of the examples in the instruction rules. -/

namespace Sys2Proof.Tests

open Sys2Proof.Machine

/-! ### Well-formedness: each check refuses an ill-formed term -/

theorem test_wellFormed_rac_refuses : (Instr.rac 0 0 3).wellFormed Encoding.standard = false ∧ (Instr.rac 0 0 0).wellFormed Encoding.standard = false := by decide
theorem test_wellFormed_rach_refuses : (Instr.rach 1 0 0).wellFormed Encoding.standard = false ∧ (Instr.rach 1 0 2).wellFormed Encoding.standard = true := by decide
theorem test_wellFormed_opecp_refuses : (Instr.opecp 0 0 0 0).wellFormed Encoding.standard = false := by decide

/-- An encoding of OPECP that a platform might supply, invented for these tests: major 1101, sub-op 0111. -/
def someOpecp : Encoding :=
  { Encoding.standard with
    opecp := some { pattern := { mask := 0xF0F00F00, bits := 0xD0700000 }, cdstAt := 24, csrcAt := 16, cpidAt := 12, instAt := 0 } }

/-- `cpid` has 4 bits and `inst` 8 by default; with a supplied encoding OPECP is an instruction. -/
theorem test_wellFormed_coprocessor_fields :
    (Instr.mvfcp 0 0 0x100 0).wellFormed Encoding.standard = false ∧ (Instr.mvtcp 0 0 0 0x10).wellFormed Encoding.standard = false
      ∧ (Instr.opecp 0 0 0 0x10).wellFormed someOpecp = false ∧ (Instr.opecp 1 2 0xFF 0xF).wellFormed someOpecp = true := by decide

/-- An encoding of OPECP with a constant bit outside its mask, with two fields in one place, in the place of MVFCP, or of 16 bits. -/
theorem test_encoding_wf_refuses : someOpecp.wf = true
    ∧ ([{ pattern := { mask := 0xF0F00F00, bits := 0xD0700080 }, cdstAt := 24, csrcAt := 16, cpidAt := 12, instAt := 0 },
        { pattern := { mask := 0xF0F00F00, bits := 0xD0700000 }, cdstAt := 24, csrcAt := 24, cpidAt := 12, instAt := 0 },
        { pattern := { mask := 0xF0F00F00, bits := 0xD0500000 }, cdstAt := 24, csrcAt := 16, cpidAt := 12, instAt := 0 },
        { pattern := { mask := 0x70F00F00, bits := 0x50700000 }, cdstAt := 24, csrcAt := 16, cpidAt := 12, instAt := 0 }]
        : List OpecpEncoding).all (fun o => !o.wf Encoding.standard) = true := by decide

/-- A region that begins inside a word. -/
theorem test_platform_wf_refuses_region :
    { Platform.reference with memMap := [{ base := 0x1002, size := 4, kind := .device }] }.wf = false
      ∧ { Platform.reference with memMap := [{ base := 0x1000, size := 4, kind := .device }] }.wf = true := by decide

theorem test_platform_wf_refuses_shared_entry :
    { Platform.reference with ae := Platform.reference.rie }.wf = false ∧ Platform.reference.wf = true := by decide

/-! ### Decoding -/

/-- The 16-bit forms of the family, each word written out from its pattern with the fields at distinct values. -/
theorem test_decode16_LoadStore : (([
  (0b0010000111000010#16, .ldInd 1 2),
  (0b0010000111100010#16, .ldPost 1 2),
  (0b0010000110000010#16, .ldbInd 1 2),
  (0b0010000110010010#16, .ldubInd 1 2),
  (0b0010000110100010#16, .ldhInd 1 2),
  (0b0010000110110010#16, .lduhInd 1 2),
  (0b0010000111010010#16, .lock 1 2),
  (0b0010001101000100#16, .stInd 3 4),
  (0b0010001101100100#16, .stPreInc 3 4),
  (0b0010001101110100#16, .stPreDec 3 4),
  (0b0010001100000100#16, .stbInd 3 4),
  (0b0010001100010100#16, .stbPost 3 4),
  (0b0010001100100100#16, .sthInd 3 4),
  (0b0010001100110100#16, .sthPost 3 4),
  (0b0010001101010100#16, .unlock 3 4)] : List (Half × Instr)).all (fun p => decode16 p.1 == some p.2)) = true := by
  decide

/-- The 32-bit forms of the family, each word written out from its pattern with the fields at distinct values. -/
theorem test_decode32_LoadStore : (([
  (0b10100001110000101111111111111110#32, .ldDisp 1 0xfffe 2),
  (0b10100001100000101111111111111110#32, .ldbDisp 1 0xfffe 2),
  (0b10100001100100101111111111111110#32, .ldubDisp 1 0xfffe 2),
  (0b10100001101000101111111111111110#32, .ldhDisp 1 0xfffe 2),
  (0b10100001101100101111111111111110#32, .lduhDisp 1 0xfffe 2),
  (0b10100011010001001111111111111110#32, .stDisp 3 0xfffe 4),
  (0b10100011000001001111111111111110#32, .stbDisp 3 0xfffe 4),
  (0b10100011001001001111111111111110#32, .sthDisp 3 0xfffe 4)] : List (Word × Instr)).all (fun p => decode32 Encoding.standard p.1 == some p.2)) = true := by
  decide

/-- The 16-bit forms of the family, each word written out from its pattern with the fields at distinct values. -/
theorem test_decode16_Transfer : (([
  (0b0110000110000001#16, .ldi8 1 129),
  (0b0001000110000010#16, .mv 1 2),
  (0b0001000110010010#16, .mvfc 1 2),
  (0b0001000110100010#16, .mvtc 2 1)] : List (Half × Instr)).all (fun p => decode16 p.1 == some p.2)) = true := by
  decide

/-- The 32-bit forms of the family, each word written out from its pattern with the fields at distinct values. -/
theorem test_decode32_Transfer : (([
  (0b11100001100000000000000000000001#32, .ld24 1 0x800001),
  (0b10010001111100001000000000000001#32, .ldi16 1 0x8001),
  (0b11010001110000001000000000000001#32, .seth 1 0x8001)] : List (Word × Instr)).all (fun p => decode32 Encoding.standard p.1 == some p.2)) = true := by
  decide

/-- The 16-bit forms of the family, each word written out from its pattern with the fields at distinct values. -/
theorem test_decode16_Arith : (([
  (0b0000001101000100#16, .cmp 3 4),
  (0b0000001101100100#16, .cmpeq 3 4),
  (0b0000001101010100#16, .cmpu 3 4),
  (0b0000000001110010#16, .cmpz 2),
  (0b0000001101110010#16, .pcmpbz 2),
  (0b0000000110100010#16, .add 1 2),
  (0b0100000110000001#16, .addi 1 129),
  (0b0000000110000010#16, .addv 1 2),
  (0b0000000110010010#16, .addx 1 2),
  (0b0000000100110010#16, .neg 1 2),
  (0b0000000100100010#16, .sub 1 2),
  (0b0000000100000010#16, .subv 1 2),
  (0b0000000100010010#16, .subx 1 2),
  (0b0000000111000010#16, .and 1 2),
  (0b0000000110110010#16, .not 1 2),
  (0b0000000111100010#16, .or 1 2),
  (0b0000000111010010#16, .xor 1 2)] : List (Half × Instr)).all (fun p => decode16 p.1 == some p.2)) = true := by
  decide

/-- The 32-bit forms of the family, each word written out from its pattern with the fields at distinct values. -/
theorem test_decode32_Arith : (([
  (0b10000000010000101000000000000001#32, .cmpi 2 0x8001),
  (0b10000000010100101000000000000001#32, .cmpui 2 0x8001),
  (0b10000001101000101000000000000001#32, .add3 1 2 0x8001),
  (0b10000001100000101000000000000001#32, .addv3 1 2 0x8001),
  (0b10000001110000101000000000000001#32, .and3 1 2 0x8001),
  (0b10000001111000101000000000000001#32, .or3 1 2 0x8001),
  (0b10000001110100101000000000000001#32, .xor3 1 2 0x8001)] : List (Word × Instr)).all (fun p => decode32 Encoding.standard p.1 == some p.2)) = true := by
  decide

/-- The 16-bit forms of the family, each word written out from its pattern with the fields at distinct values. -/
theorem test_decode16_MulDivShift : (([
  (0b0001000101100010#16, .mul 1 2),
  (0b0001000101000010#16, .sll 1 2),
  (0b0101000101010001#16, .slli 1 17),
  (0b0001000100100010#16, .sra 1 2),
  (0b0101000100110001#16, .srai 1 17),
  (0b0001000100000010#16, .srl 1 2),
  (0b0101000100010001#16, .srli 1 17)] : List (Half × Instr)).all (fun p => decode16 p.1 == some p.2)) = true := by
  decide

/-- The 32-bit forms of the family, each word written out from its pattern with the fields at distinct values. -/
theorem test_decode32_MulDivShift : (([
  (0b10010001000000100000000000000000#32, .div 1 2),
  (0b10010001000000100000000000011000#32, .divb 1 2),
  (0b10010001000000100000000000010000#32, .divh 1 2),
  (0b10010001000100100000000000000000#32, .divu 1 2),
  (0b10010001000100100000000000011000#32, .divub 1 2),
  (0b10010001000100100000000000010000#32, .divuh 1 2),
  (0b10010001001000100000000000000000#32, .rem 1 2),
  (0b10010001001000100000000000011000#32, .remb 1 2),
  (0b10010001001000100000000000010000#32, .remh 1 2),
  (0b10010001001100100000000000000000#32, .remu 1 2),
  (0b10010001001100100000000000011000#32, .remub 1 2),
  (0b10010001001100100000000000010000#32, .remuh 1 2),
  (0b10010001110000101000000000000001#32, .sll3 1 2 0x8001),
  (0b10010001101000101000000000000001#32, .sra3 1 2 0x8001),
  (0b10010001100000101000000000000001#32, .srl3 1 2 0x8001)] : List (Word × Instr)).all (fun p => decode32 Encoding.standard p.1 == some p.2)) = true := by
  decide

/-- The 16-bit forms of the family, each word written out from its pattern with the fields at distinct values. -/
theorem test_decode16_Branch : (([
  (0b0111110011111110#16, .bc8 254),
  (0b0111100011111110#16, .bcl8 254),
  (0b0111111011111110#16, .bl8 254),
  (0b0111110111111110#16, .bnc8 254),
  (0b0111100111111110#16, .bncl8 254),
  (0b0111111111111110#16, .bra8 254),
  (0b0001110011000010#16, .jc 2),
  (0b0001111011000010#16, .jl 2),
  (0b0001111111000010#16, .jmp 2),
  (0b0001110111000010#16, .jnc 2),
  (0b0111000000000000#16, .nop),
  (0b0111010000000001#16, .sc),
  (0b0111010100000001#16, .snc)] : List (Half × Instr)).all (fun p => decode16 p.1 == some p.2)) = true := by
  decide

/-- The 32-bit forms of the family, each word written out from its pattern with the fields at distinct values. -/
theorem test_decode32_Branch : (([
  (0b11111100111111111111111111111110#32, .bc24 0xfffffe),
  (0b11111000111111111111111111111110#32, .bcl24 0xfffffe),
  (0b11111110111111111111111111111110#32, .bl24 0xfffffe),
  (0b11111101111111111111111111111110#32, .bnc24 0xfffffe),
  (0b11111001111111111111111111111110#32, .bncl24 0xfffffe),
  (0b11111111111111111111111111111110#32, .bra24 0xfffffe),
  (0b10110011000001001111111111111110#32, .beq 3 4 0xfffe),
  (0b10110011000101001111111111111110#32, .bne 3 4 0xfffe),
  (0b10110000100000101111111111111110#32, .beqz 2 0xfffe),
  (0b10110000100100101111111111111110#32, .bnez 2 0xfffe),
  (0b10110000101000101111111111111110#32, .bltz 2 0xfffe),
  (0b10110000101100101111111111111110#32, .bgez 2 0xfffe),
  (0b10110000110000101111111111111110#32, .blez 2 0xfffe),
  (0b10110000110100101111111111111110#32, .bgtz 2 0xfffe)] : List (Word × Instr)).all (fun p => decode32 Encoding.standard p.1 == some p.2)) = true := by
  decide

/-- The 16-bit forms of the family, each word written out from its pattern with the fields at distinct values. -/
theorem test_decode16_BitEit : (([
  (0b0000010111110010#16, .btst 5 2),
  (0b0111000110000001#16, .setpsw 129),
  (0b0111001010000001#16, .clrpsw 129),
  (0b0001000011111001#16, .trap 9),
  (0b0001000011010110#16, .rte)] : List (Half × Instr)).all (fun p => decode16 p.1 == some p.2)) = true := by
  decide

/-- The 32-bit forms of the family, each word written out from its pattern with the fields at distinct values. -/
theorem test_decode32_BitEit : (([
  (0b10100101011100101111111111111110#32, .bclr 5 0xfffe 2),
  (0b10100101011000101111111111111110#32, .bset 5 0xfffe 2)] : List (Word × Instr)).all (fun p => decode32 Encoding.standard p.1 == some p.2)) = true := by
  decide

/-- The 16-bit forms of the family, each word written out from its pattern with the fields at distinct values. -/
theorem test_decode16_Dsp : (([
  (0b0011001110000100#16, .mulhi 3 4 1),
  (0b0011001110010100#16, .mullo 3 4 1),
  (0b0011001100100100#16, .mulwhi 3 4),
  (0b0011001100110100#16, .mulwlo 3 4),
  (0b0101001110100100#16, .mulwu1 3 4),
  (0b0011001111000100#16, .machi 3 4 1),
  (0b0011001111010100#16, .maclo 3 4 1),
  (0b0011001101100100#16, .macwhi 3 4),
  (0b0011001101110100#16, .macwlo 3 4),
  (0b0101001111000100#16, .maclh1 3 4),
  (0b0101001110110100#16, .macwu1 3 4),
  (0b0101001111010100#16, .msblo 3 4),
  (0b0101000011100100#16, .sadd),
  (0b0101010010010001#16, .rac 1 0 2),
  (0b0101010010000001#16, .rach 1 0 2),
  (0b0101000111110000#16, .mvfachi 1 0),
  (0b0101000111110001#16, .mvfaclo 1 0),
  (0b0101000111110010#16, .mvfacmi 1 0),
  (0b0101001001110100#16, .mvtachi 2 1),
  (0b0101001001110101#16, .mvtaclo 2 1)] : List (Half × Instr)).all (fun p => decode16 p.1 == some p.2)) = true := by
  decide

/-- The 32-bit forms of the family, each word written out from its pattern with the fields at distinct values. -/
theorem test_decode32_Dsp : (([
  (0b10000001011000100000001100000000#32, .satb 1 2),
  (0b10000001011000100000001000000000#32, .sath 1 2)] : List (Word × Instr)).all (fun p => decode32 Encoding.standard p.1 == some p.2)) = true := by
  decide

/-- The 32-bit forms of the family, each word written out from its pattern with the fields at distinct values. -/
theorem test_decode32_Coprocessor : (([
  (0b11010001010100100110000010100101#32, .mvfcp 1 2 165 6),
  (0b11010010011000010110000010100101#32, .mvtcp 2 1 165 6)] : List (Word × Instr)).all (fun p => decode32 Encoding.standard p.1 == some p.2)) = true := by
  decide

/-- A 16-bit form decodes the same with the parallel bit set (R103). -/
theorem test_decode_parallel_bit : decode16 0xF000 = some .nop ∧ decode16 0x9364 = some (.mul 3 4) := by decide

/-- Fixed bits are part of the match (R125): wrong ones are reserved. -/
theorem test_decode_reserved : decode16 0x0170 = none ∧ decode16 0x7001 = none ∧ decode32 Encoding.standard 0xC0000000 = none
    ∧ decode32 Encoding.standard 0x91020001 = none ∧ decode32 Encoding.standard 0xD1520100 = none := by decide

/-- The parameters of encodings: OPECP where the platform supplies it, `cpid` of 8 bits, a pattern taken out of `RIE_SET`. -/
theorem test_decode_parameters :
    decodeUnit someOpecp false 0xD17260A5 = .single (.opecp 1 2 0xA5 6)
      ∧ encode someOpecp (.opecp 1 2 0xA5 6) = some (.word 0xD17260A5)
      ∧ decodeUnit Encoding.standard false 0xD17260A5 = .reserved 4
      ∧ decode32 { Encoding.standard with cpidWidth := 8 } 0xD152A506 = some (.mvfcp 1 2 6 0xA5)
      ∧ decodeUnit { Encoding.standard with noRie32 := [{ mask := 0xF0000000, bits := 0xC0000000 }] } false 0xC0000000 = .unassigned := by
  decide

theorem test_table_word : decodeTableWord 16 0x01A2 = some (.add 1 2) ∧ decodeTableWord 32 0xE3123456 = some (.ld24 3 0x123456)
    ∧ decodeTableWord 16 0x8000 = some (.subv 0 0) := by decide

theorem test_pairs_allowed : pairAllowed (.ldInd 1 2) (.mulhi 3 4 0) = true ∧ pairAllowed (.mul 1 2) .nop = true
    ∧ pairAllowed (.mul 1 2) (.addi 3 1) = false ∧ pairAllowed (.add 1 2) (.ldInd 3 4) = false := by decide

/-! ### One step on small states -/

/-- A state at `pc` with R1, R2, R3, the PSW and some memory given. -/
def at3 (pc psw x1 x2 x3 : Word) (mem : Memory) : State :=
  { State.reset with pc := pc, psw := psw, gpr := #v[0, x1, x2, x3, 0, 0, 0, 0, 0, 0, 0, 0, 0, 0, 0], mem := mem }

/-- The outcome is a next state of which `p` holds. -/
def nextIs (o : Result) (p : State → Bool) : Bool :=
  match o with
  | .next t => p t
  | _ => false

/-- The outcome is this refusal. -/
def refuses (o : Result) (r : Refusal) : Bool :=
  match o with
  | .refused q => q == r
  | _ => false

theorem test_ld_word : nextIs (exec (.ldInd 1 2) (at3 0x1000 0 0 0x2000 0 [(0x2000, 0x80), (0x2003, 1)]))
    (fun t => readReg t 1 == 0x80000001 && t.pc == 0x1002) = true := by decide

theorem test_ld_wraps : nextIs (exec (.ldDisp 1 8 2) (at3 0x1000 0 0 0xFFFFFFFC 0 [(4, 1), (5, 2), (6, 3), (7, 4)]))
    (fun t => readReg t 1 == 0x01020304 && t.pc == 0x1004) = true := by decide

theorem test_ld_post : nextIs (exec (.ldPost 1 2) (at3 0x1000 0 0 0x2000 0 [(0x2000, 0x11), (0x2003, 0x44)]))
    (fun t => readReg t 1 == 0x11000044 && readReg t 2 == 0x2004) = true := by decide

theorem test_ldb_signed : nextIs (exec (.ldbInd 1 2) (at3 0x1000 0 0 0x2003 0 [(0x2003, 0x80)]))
    (fun t => readReg t 1 == 0xFFFFFF80) = true := by decide

theorem test_lduh_zero : nextIs (exec (.lduhDisp 1 2 2) (at3 0x1000 0 0 0x2000 0 [(0x2002, 0x80)]))
    (fun t => readReg t 1 == 0x00008000) = true := by decide

theorem test_lock_sets : nextIs (exec (.lock 1 2) (at3 0x1000 0 0 0x2000 0 [(0x2003, 1)]))
    (fun t => readReg t 1 == 1 && t.lock) = true := by decide

theorem test_ld_misaligned : nextIs (exec (.ldInd 1 2) (at3 0x1000 0 0x55 0x2002 0 []))
    (fun t => readReg t 1 == 0x55 && t.bpc == 0x1000 && t.pc == 0x30) = true := by decide

theorem test_st_push : nextIs (exec (.stPreDec 1 15) ({ at3 0x1000 0 0xDEADBEEF 0 0 [] with spi := 0x2000 }))
    (fun t => t.spi == 0x1FFC && readWord t.mem 0x1FFC == 0xDEADBEEF && t.written == [0x1FFC, 0x1FFD, 0x1FFE, 0x1FFF]) = true := by decide

theorem test_stb_same_register : nextIs (exec (.stbPost 2 2) (at3 0x1000 0 0 0x3001 0 []))
    (fun t => readReg t 2 == 0x3002 && readByte t.mem 0x3001 == 1) = true := by decide

theorem test_unlock_without_lock : nextIs (exec (.unlock 1 2) (at3 0x1000 0 5 0x2002 0 []))
    (fun t => t.mem == [] && t.pc == 0x1002) = true := by decide

theorem test_st_same_register_refused : refuses (exec (.stPreInc 2 2) (at3 0x1000 0 0 0x3000 0 [])) .sameRegisterUpdate = true := by decide

theorem test_mvfc_cbr : nextIs (exec (.mvfc 0 1) (at3 0x1000 0xC1 0 0 0 []))
    (fun t => readReg t 0 == 1) = true := by decide

theorem test_mvtc_psw_masks : nextIs (exec (.mvtc 1 0) (at3 0x1000 0 0xFFFFFFF7 0 0 []))
    (fun t => t.psw == 0xCDC5) = true := by decide

theorem test_mvtc_user_pie : nextIs (exec (.mvtc 1 4) (at3 0x1000 8 0x840 0 0 []))
    (fun t => t.psw == 0x0800 && t.bpc == 0x1000 && t.pc == 0x90) = true := by decide

theorem test_seth : nextIs (exec (.seth 3 0x8001) (at3 0x1000 0 0 0 0 []))
    (fun t => readReg t 3 == 0x80010000) = true := by decide

theorem test_cmpu : nextIs (exec (.cmpu 1 2) (at3 0x1000 1 0xFFFFFFFF 1 0 []))
    (fun t => t.psw == 0) = true := by decide

theorem test_addv_overflow : nextIs (exec (.addv 1 2) (at3 0x1000 0 0x7FFFFFFF 1 0 []))
    (fun t => readReg t 1 == 0x80000000 && t.psw == 1) = true := by decide

theorem test_addx_carry : nextIs (exec (.addx 1 2) (at3 0x1000 1 0xFFFFFFFF 0 0 []))
    (fun t => readReg t 1 == 0 && t.psw == 1) = true := by decide

theorem test_subx_borrow : nextIs (exec (.subx 1 2) (at3 0x1000 1 0 0 0 []))
    (fun t => readReg t 1 == 0xFFFFFFFF && t.psw == 1) = true := by decide

theorem test_mul : nextIs (exec (.mul 1 2) (at3 0x1000 0 0xFFFFFFFE 3 0 []))
    (fun t => readReg t 1 == 0xFFFFFFFA) = true := by decide

theorem test_div_truncates : nextIs (exec (.div 1 2) (at3 0x1000 0 0xFFFFFFF9 2 0 []))
    (fun t => readReg t 1 == 0xFFFFFFFD) = true := by decide

theorem test_rem_sign : nextIs (exec (.rem 1 2) (at3 0x1000 0 0xFFFFFFF9 2 0 []))
    (fun t => readReg t 1 == 0xFFFFFFFF) = true := by decide

theorem test_divb_no_overflow : nextIs (exec (.divb 1 2) (at3 0x1000 0 0x12345680 0xFFFFFFFF 0 []))
    (fun t => readReg t 1 == 0x80) = true := by decide

theorem test_div_by_zero : nextIs (exec (.divub 1 2) (at3 0x1000 0 0x12345680 0 0 []))
    (fun t => readReg t 1 == 0x12345680 && t.pc == 0x1004) = true := by decide

theorem test_sra_counts_mod_32 : nextIs (exec (.sra 1 2) (at3 0x1000 0 0x80000000 0x24 0 []))
    (fun t => readReg t 1 == 0xF8000000) = true := by decide

theorem test_bc_lower_half : nextIs (exec (.bc8 0xFE) (at3 0x1002 1 0 0 0 []))
    (fun t => t.pc == 0x0FF8) = true := by decide

theorem test_bl_lower_half : nextIs (exec (.bl8 4) (at3 0x1002 0 0 0 0 []))
    (fun t => readReg t 14 == 0x1004 && t.pc == 0x1010) = true := by decide

theorem test_blez_zero : nextIs (exec (.blez 3 1) (at3 0x1000 0 0 0 0 []))
    (fun t => t.pc == 0x1004) = true := by decide

theorem test_jl_link_register : nextIs (exec (.jl 14) ({ at3 0x1002 0 0 0 0 [] with gpr := #v[0, 0, 0, 0, 0, 0, 0, 0, 0, 0, 0, 0, 0, 0, 0x3003] }))
    (fun t => t.pc == 0x3000 && readReg t 14 == 0x1004) = true := by decide

theorem test_bset_lsb : nextIs (exec (.bset 7 4 2) (at3 0x1000 0 0 0x1000 0 []))
    (fun t => readByte t.mem 0x1004 == 1) = true := by decide

theorem test_btst_msb : nextIs (exec (.btst 0 3) (at3 0x1000 0 0 0 0x80 []))
    (fun t => t.psw == 1) = true := by decide

theorem test_trap_entry : nextIs (exec (.trap 1) (at3 0x2000 0xC9 0 0 0 []))
    (fun t => t.bpc == 0x2002 && t.psw == 0xC980 && t.pc == 0x44) = true := by decide

theorem test_rte_halfword : nextIs (exec (.rte) ({ at3 0x1000 0x8800 0 0 0 [] with bpc := 0x2002 }))
    (fun t => t.psw == 0x8888 && t.pc == 0x2002) = true := by decide

theorem test_mulhi : nextIs (exec (.mulhi 1 2 0) (at3 0x1000 0 0x00030000 0xFFFE0000 0 []))
    (fun t => t.acc0 == 0xFFFFFFFFFA0000 && t.acc1 == 0) = true := by decide

theorem test_maclo_wraps : nextIs (exec (.maclo 1 2 0) ({ at3 0x1000 0 1 1 0 [] with acc0 := 0x7FFFFFFFFF0000 }))
    (fun t => t.acc0 == 0x80000000000000) = true := by decide

theorem test_rac_saturates : nextIs (exec (.rac 0 0 1) ({ at3 0x1000 0 0 0 0 [] with acc0 := 0x00400000000000 }))
    (fun t => t.acc0 == 0x007FFFFFFF0000) = true := by decide

theorem test_rach_rounds : nextIs (exec (.rach 0 0 2) ({ at3 0x1000 0 0 0 0 [] with acc0 := 0x00000123456789 }))
    (fun t => t.acc0 == 0x00000500000000) = true := by decide

theorem test_mvtachi_drops_top : nextIs (exec (.mvtachi 1 0) ({ at3 0x1000 0 0x12345678 0 0 [] with acc0 := 0x89ABCDEF012345 }))
    (fun t => t.acc0 == 0x345678EF012345) = true := by decide

theorem test_satb : nextIs (exec (.satb 1 2) (at3 0x1000 0 0 0xFFFFFF7F 0 []))
    (fun t => readReg t 1 == 0xFFFFFF80) = true := by decide

theorem test_mvfcp_disabled : nextIs (exec (.mvfcp 1 2 0 0) (at3 0x1000 0 0 0 0 []))
    (fun t => t.bpc == 0x1000 && t.pc == 0xA0 && t.copRequests == []) = true := by decide

/-- The tests' platform: a device at 0x8000, two coprocessors, one external source that keeps SM, user mode kept below 0x80000000. -/
def board : Platform :=
  { Platform.reference with
    memMap := [{ base := 0x8000, size := 0x100, kind := .device }, { base := 0x9000, size := 0x100, kind := .rom }]
    userData := .raises .ae
    userFetch := .raises .pie
    reservedControl := .constant 0x12345678
    pie := { index := 0x24, clearsSM := true, savesNext := true }
    encoding := someOpecp
    coprocessors := [1, 6] }

/-- A state of the tests' platform. -/
def onBoard (s : State) : State := { s with platform := board }

/-- A device sees one read and its answer is extended as the load says (R85, R142). -/
theorem test_device_load : nextIs (exec (.ldbInd 1 2) { onBoard (at3 0x1000 0 0 0x8001 0 []) with deviceAnswers := [0x12345680, 7] })
    (fun t => readReg t 1 == 0xFFFFFF80 && t.deviceAccesses == [.read 0x8001 1] && t.deviceAnswers == [7] && t.draws == 0) = true := by
  decide

theorem test_device_store : nextIs (exec (.stPreDec 1 2) (onBoard (at3 0x1000 0 0x11223344 0x8004 0 [])))
    (fun t => t.mem == [] && t.written == [] && t.deviceAccesses == [.write 0x8000 [0x11, 0x22, 0x33, 0x44]] && readReg t 2 == 0x8000) = true := by
  decide

/-- BCLR reads the device once and writes it once (R84). -/
theorem test_device_bclr : nextIs (exec (.bclr 0 1 2) { onBoard (at3 0x1000 0 0 0x8000 0 []) with deviceAnswers := [0xFF] })
    (fun t => t.deviceAccesses == [.read 0x8001 1, .write 0x8001 [0x7F]] && t.mem == []) = true := by decide

/-- A device access with no answer given completes, its value open. -/
theorem test_device_load_open : nextIs (exec (.ldInd 1 2) (onBoard (at3 0x1000 0 0 0x8000 0 [])))
    (fun t => t.draws == 1 && t.pc == 0x1002) = true := by decide

/-- A load of user mode outside the user space on a platform that raises AE for it (R79). -/
theorem test_user_policy : nextIs (exec (.ldInd 1 2) (onBoard (at3 0x1000 8 5 0x80000000 0 [])))
    (fun t => readReg t 1 == 5 && t.bpc == 0x1000 && t.pc == 0x30) = true := by decide

/-- PIE of a platform whose `EIT_BPC_POLICY` saves the next instruction (R354). -/
theorem test_bpc_policy : nextIs (exec .rte (onBoard (at3 0x1000 8 0 0 0 []))) (fun t => t.bpc == 0x1002 && t.pc == 0x90) = true := by
  decide

theorem test_reserved_control : nextIs (exec (.mvfc 1 7) (onBoard (at3 0x1000 0 0 0 0 []))) (fun t => readReg t 1 == 0x12345678) = true
    ∧ nextIs (exec (.mvtc 1 7) (onBoard (at3 0x1000 0 5 0 0 []))) (fun t => t.pc == 0x1002) = true := by decide

/-- OPECP fetched, decoded and sent (R305). -/
theorem test_opecp_runs : nextIs (step (onBoard (at3 0x1000 0 0 0 0 [(0x1000, 0xD1), (0x1001, 0x72), (0x1002, 0x60), (0x1003, 0xA5)])))
    (fun t => t.copRequests == [.operate 6 1 2 0xA5] && t.pc == 0x1004) = true := by decide

theorem test_mvfcp_answer : nextIs (exec (.mvfcp 1 2 0 6) { onBoard (at3 0x1000 0 0 0 0 []) with copAnswers := [9] })
    (fun t => readReg t 1 == 9 && t.copRequests == [.read 6 2 0] && t.copAnswers == []) = true := by decide

/-- A coprocessor that is present but switched off (R301). -/
theorem test_mvtcp_switched_off : nextIs (exec (.mvtcp 1 2 0 6) { onBoard (at3 0x1000 0 0 0 0 []) with copDisabled := [6] })
    (fun t => t.copRequests == [] && t.pc == 0xA0) = true := by decide

/-- `MV R1,R0 || MV R0,R1` (R321). -/
theorem test_pair_swaps : nextIs (step (at3 0x1000 0 7 0 0 [(4096, 0x11), (4097, 0x80), (4098, 0x90), (4099, 0x81)]))
    (fun t => readReg t 0 == 7 && readReg t 1 == 0 && t.pc == 0x1004) = true := by decide

/-- `BC || CMP R1,R0` (R323). -/
theorem test_pair_branch_reads_old_c : nextIs (step (at3 0x1000 1 5 0 0 [(4096, 0x7C), (4097, 0x04), (4098, 0x81), (4099, 0x40)]))
    (fun t => t.psw == 0 && t.pc == 0x1010) = true := by decide

theorem test_pair_sc_cancels : nextIs (step (at3 0x1000 1 5 0 0 [(4096, 0x74), (4097, 0x01), (4098, 0xC1), (4099, 0x01)]))
    (fun t => readReg t 1 == 5 && t.pc == 0x1004) = true := by decide

theorem test_pair_rie_first : nextIs (step (at3 0x1000 8 0 0 0 [(4096, 0x10), (4097, 0xA1), (4098, 0x81), (4099, 0x70)]))
    (fun t => t.psw == 0x800 && t.bpc == 0x1000 && t.pc == 0x20) = true := by decide

theorem test_interrupt_before_unit : nextIs (step ({ at3 0x1000 0x44 0 0 0 [(4096, 0x41), (4097, 0x01), (4098, 0x70)] with cpiPending := true, platform := board }))
    (fun t => t.psw == 0x4400 && t.bpc == 0x1000 && t.pc == 0xB0) = true := by decide

/-- With no coprocessor the request is never true (R301). -/
theorem test_cpi_without_coprocessor : nextIs (step ({ at3 0x1000 0x44 0 0 0 [(4096, 0x41), (4097, 0x01), (4098, 0x70)] with cpiPending := true }))
    (fun t => t.psw == 0x44 && readReg t 1 == 1) = true := by decide

theorem test_fetch_word_runs : nextIs (step (State.reset.withFetchWord 32 0xE3123456)) (fun t => readReg t 3 == 0x123456 && t.pc == 4) = true := by decide

theorem test_fetch_half_runs : nextIs (step (State.reset.withFetchWord 16 0x61FF)) (fun t => readReg t 1 == 0xFFFFFFFF && t.pc == 2) = true := by decide

/-! ### Witnesses: the hypotheses of each statement can be met, each clause at a boundary of its range -/

/-- Nothing comes before the unit at the pc of this state. -/
def plain (pc psw x1 x2 x3 : Word) (mem : Memory) : State := at3 pc psw x1 x2 x3 mem

theorem witness_DecodeEncodeRoundTrip : someOpecp.wf = true ∧ (Instr.rac 1 0 2).wellFormed someOpecp = true
    ∧ (Instr.opecp 15 15 0xFF 15).wellFormed someOpecp = true
    ∧ ({ Encoding.standard with cpidWidth := 12 }).wf = true
    ∧ (Instr.mvfcp 15 15 0 0xFFF).wellFormed { Encoding.standard with cpidWidth := 12 } = true := by decide

theorem witness_RowsDoNotOverlap : someOpecp.wf = true ∧ (rows32 someOpecp).length = 54 := by decide

theorem witness_UnusedMajorRaisesRie :
    (readWord (plain 0x1000 0 0 0 0 [(0x1000, 0xC0)]).mem (wordFloor 0x1000)).extractLsb' 28 4 = 0b1100#4
      ∧ Fetches (plain 0x1000 0 0 0 0 [(0x1000, 0xC0)]) ∧ (plain 0x1000 0 0 0 0 [(0x1000, 0xC0)]).pc.getLsbD 1 = false
      ∧ inRieSet32 Encoding.standard (readWord [(0x1000, 0xC0)] (wordFloor 0x1000)) = true
      ∧ decode32 Encoding.standard (readWord [(0x1000, 0xC0)] (wordFloor 0x1000)) = none := by
  unfold Fetches; decide

/-- A platform that takes major 1100 and the halfword 0x0170 out of `RIE_SET`. -/
def withoutRie : Platform :=
  { Platform.reference with
    encoding := { Encoding.standard with noRie16 := [{ mask := 0x7FFF, bits := 0x0170 }], noRie32 := [{ mask := 0xF0000000, bits := 0xC0000000 }] } }

theorem witness_UnusedMajorRaisesRie_outside :
    Fetches { plain 0x1000 0 0 0 0 [(0x1000, 0xC0)] with platform := withoutRie }
      ∧ inRieSet32 withoutRie.encoding (readWord [(0x1000, 0xC0)] (wordFloor 0x1000)) = false := by
  unfold Fetches; decide

/-- A reserved halfword alone, in the upper and in the lower half, in `RIE_SET` and outside it. -/
theorem witness_UnusedMajorRaisesRie_half :
    Fetches (plain 0x1002 0 0 0 0 [(0x1000, 0x70), (0x1002, 0x01), (0x1003, 0x70)])
      ∧ (readWord [(0x1000, 0x70), (0x1002, 0x01), (0x1003, 0x70)] (wordFloor 0x1002)).extractLsb' 0 16 = 0x0170
      ∧ Fetches { plain 0x1000 0 0 0 0 [(0x1000, 0x01), (0x1001, 0x70)] with platform := withoutRie }
      ∧ (readWord [(0x1000, 0x01), (0x1001, 0x70)] (wordFloor 0x1000)).extractLsb' 16 16 = 0x0170
      ∧ (readWord [(0x1000, 0x01), (0x1001, 0x70)] (wordFloor 0x1000)).getLsbD 31 = false
      ∧ (readWord [(0x1000, 0x01), (0x1001, 0x70)] (wordFloor 0x1000)).getLsbD 15 = false
      ∧ decode16 0x0170 = none ∧ inRieSet16 Encoding.standard 0x0170 = true ∧ inRieSet16 withoutRie.encoding 0x0170 = false := by
  unfold Fetches; decide

/-- Both halfwords of one word, and a 32-bit word. -/
theorem witness_StepRunsDecodedInstruction_single :
    Fetches (plain 0x1002 0 0 0 0 [(0x1000, 0x70), (0x1002, 0x41), (0x1003, 0x01)])
      ∧ decodeUnit Encoding.standard true (readWord [(0x1000, 0x70), (0x1002, 0x41), (0x1003, 0x01)] (wordFloor 0x1002)) = .single (.addi 1 1)
      ∧ Fetches (plain 0xFFFFFFFC 0 0 0 0 [(0xFFFFFFFC, 0xFF)])
      ∧ decodeUnit Encoding.standard false (readWord [(0xFFFFFFFC, 0xFF)] (wordFloor 0xFFFFFFFC)) = .single (.bra24 0) := by
  unfold Fetches; decide

theorem witness_StepRunsDecodedInstruction_pair :
    Fetches (plain 0x1000 0 0 0 0 [(0x1000, 0x11), (0x1001, 0x80), (0x1002, 0x92), (0x1003, 0x81)])
      ∧ decode16 ((readWord [(0x1000, 0x11), (0x1001, 0x80), (0x1002, 0x92), (0x1003, 0x81)] 0x1000).extractLsb' 16 16)
        = some (.mv 1 0)
      ∧ decode16 ((readWord [(0x1000, 0x11), (0x1001, 0x80), (0x1002, 0x92), (0x1003, 0x81)] 0x1000).extractLsb' 0 16)
        = some (.mv 2 1)
      ∧ (readWord [(0x1000, 0x11), (0x1001, 0x80), (0x1002, 0x92), (0x1003, 0x81)] 0x1000).getLsbD 31 = false
      ∧ (readWord [(0x1000, 0x11), (0x1001, 0x80), (0x1002, 0x92), (0x1003, 0x81)] 0x1000).getLsbD 15 = true
      ∧ pairAllowed (.mv 1 0) (.mv 2 1) = true := by
  unfold Fetches; decide

/-- A state that meets the invariant and whose step answers a next state. -/
theorem witness_StepKeepsInvariant :
    Inv (plain 0xFFFFFFFC 0xCDCD 1 2 3 [(0xFFFFFFFC, 0xFF)])
      ∧ nextIs (step (plain 0xFFFFFFFC 0xCDCD 1 2 3 [(0xFFFFFFFC, 0xFF)])) (fun _ => true) = true :=
  ⟨⟨by decide, by decide, by decide, by decide, by decide, by decide⟩, by decide⟩

theorem witness_StepKeepsEnvironment : nextIs (step State.reset) (fun _ => true) = true := by decide

theorem witness_ResetValues : { plain 0x1002 0x88 1 2 3 [] with resetRequest := true }.resetRequest = true := rfl

theorem witness_StackPointerBank : psw_sm (plain 0 0 0 0 0 []).psw = false ∧ psw_sm (plain 0 0x80 0 0 0 []).psw = true := by decide

theorem witness_SignedDivision :
    (readReg (plain 0 0 0x80000000 0 0 []) 2 = 0)
      ∧ (readReg (plain 0 0 0x80000000 0xFFFFFFFF 0 []) 1 = 0x80000000 ∧ readReg (plain 0 0 0x80000000 0xFFFFFFFF 0 []) 2 = 0xFFFFFFFF)
      ∧ (readReg (plain 0 0 0x80000001 0xFFFFFFFF 0 []) 2 ≠ 0
        ∧ ¬ (readReg (plain 0 0 0x80000001 0xFFFFFFFF 0 []) 1 = 0x80000000
          ∧ readReg (plain 0 0 0x80000001 0xFFFFFFFF 0 []) 2 = 0xFFFFFFFF)) := by decide

theorem witness_NarrowSignedDivision :
    readReg (plain 0 0 0x80 0 0 []) 2 = 0 ∧ readReg (plain 0 0 0x80 0xFFFFFFFF 0 []) 2 ≠ 0 := by decide

theorem witness_UnsignedDivision : readReg (plain 0 0 1 0 0 []) 2 = 0 ∧ readReg (plain 0 0 1 1 0 []) 2 ≠ 0 := by decide

theorem witness_BigEndianAccess : Memory.wf [(0, 1), (0xFFFFFFFF, 0xFF)] = true := by decide

/-- Accesses at the top of the address space, direct and by displacement, and two distinct registers. -/
theorem witness_LoadResults :
    Accessible .load 4 (readReg (plain 0 0 0 0xFFFFFFFC 0 []) 2) (plain 0 0 0 0xFFFFFFFC 0 [])
      ∧ Accessible .load 4 (readReg (plain 0 0 0 4 0 []) 2 + (0xFFF8 : BitVec 16).signExtend 32) (plain 0 0 0 4 0 [])
      ∧ Accessible .load 1 (readReg (plain 0 0 0 0xFFFFFFFF 0 []) 2) (plain 0 0 0 0xFFFFFFFF 0 [])
      ∧ Accessible .load 1 (readReg (plain 0 0 0 0xFFFFFFFF 0 []) 2 + (2 : BitVec 16).signExtend 32) (plain 0 0 0 0xFFFFFFFF 0 [])
      ∧ Accessible .load 2 (readReg (plain 0 0 0 0xFFFFFFFE 0 []) 2) (plain 0 0 0 0xFFFFFFFE 0 [])
      ∧ Accessible .load 2 (readReg (plain 0 0 0 0xFFFFFFFF 0 []) 2 + (1 : BitVec 16).signExtend 32) (plain 0 0 0 0xFFFFFFFF 0 [])
      ∧ (1 : RegNum) ≠ 2 := by
  unfold Accessible; decide

theorem witness_StoreResults :
    Memory.wf (plain 0 0 0 0xFFFFFFFC 0 []).mem = true
      ∧ Accessible .store 4 (readReg (plain 0 0 0 0xFFFFFFFC 0 []) 2) (plain 0 0 0 0xFFFFFFFC 0 [])
      ∧ Accessible .store 4 (readReg (plain 0 0 0 4 0 []) 2 + (0xFFF8 : BitVec 16).signExtend 32) (plain 0 0 0 4 0 [])
      ∧ Accessible .store 1 (readReg (plain 0 0 0 0xFFFFFFFF 0 []) 2) (plain 0 0 0 0xFFFFFFFF 0 [])
      ∧ Accessible .store 1 (readReg (plain 0 0 0 0xFFFFFFFF 0 []) 2 + (2 : BitVec 16).signExtend 32) (plain 0 0 0 0xFFFFFFFF 0 [])
      ∧ Accessible .store 2 (readReg (plain 0 0 0 0xFFFFFFFE 0 []) 2) (plain 0 0 0 0xFFFFFFFE 0 [])
      ∧ Accessible .store 2 (readReg (plain 0 0 0 0xFFFFFFFF 0 []) 2 + (1 : BitVec 16).signExtend 32) (plain 0 0 0 0xFFFFFFFF 0 [])
      ∧ { plain 0 0 0 0xFFFFFFFC 0 [] with lock := true }.lock = true ∧ (plain 0 0 0 0xFFFFFFFC 0 []).lock = false := by
  unfold Accessible; decide

/-- The first and the last accesses of each size that reach the device region. -/
theorem witness_device :
    ReachesDevice .load 4 (readReg (onBoard (plain 0 0 0 0x8000 0 [])) 2) (onBoard (plain 0 0 0 0x8000 0 []))
      ∧ ReachesDevice .load 4 (readReg (onBoard (plain 0 0 0 0x80FC 0 [])) 2) (onBoard (plain 0 0 0 0x80FC 0 []))
      ∧ ReachesDevice .load 2 (readReg (onBoard (plain 0 0 0 0x80FE 0 [])) 2) (onBoard (plain 0 0 0 0x80FE 0 []))
      ∧ ReachesDevice .load 1 (readReg (onBoard (plain 0 0 0 0x80FF 0 [])) 2) (onBoard (plain 0 0 0 0x80FF 0 []))
      ∧ ReachesDevice .store 4 (readReg (onBoard (plain 0 0 0 0x80FC 0 [])) 2) (onBoard (plain 0 0 0 0x80FC 0 []))
      ∧ ReachesDevice .store 2 (readReg (onBoard (plain 0 0 0 0x80FE 0 [])) 2) (onBoard (plain 0 0 0 0x80FE 0 []))
      ∧ ReachesDevice .store 1 (readReg (onBoard (plain 0 0 0 0x80FF 0 [])) 2) (onBoard (plain 0 0 0 0x80FF 0 [])) := by
  unfold ReachesDevice; decide

/-- By displacement, at the updated address, and with the LOCK bit 1. -/
theorem witness_device_updated :
    ReachesDevice .load 4 (readReg (onBoard (plain 0 0 0 0x8004 0 [])) 2 + (0xFFFC : BitVec 16).signExtend 32) (onBoard (plain 0 0 0 0x8004 0 []))
      ∧ ReachesDevice .load 1 (readReg (onBoard (plain 0 0 0 0x8004 0 [])) 2 + (0xFFFC : BitVec 16).signExtend 32) (onBoard (plain 0 0 0 0x8004 0 []))
      ∧ ReachesDevice .load 2 (readReg (onBoard (plain 0 0 0 0x8004 0 [])) 2 + (0xFFFC : BitVec 16).signExtend 32) (onBoard (plain 0 0 0 0x8004 0 []))
      ∧ ReachesDevice .store 4 (readReg (onBoard (plain 0 0 0 0x7FFC 0 [])) 2 + 4) (onBoard (plain 0 0 0 0x7FFC 0 []))
      ∧ ReachesDevice .store 4 (readReg (onBoard (plain 0 0 0 0x8100 0 [])) 2 - 4) (onBoard (plain 0 0 0 0x8100 0 []))
      ∧ ReachesDevice .store 4 (readReg (onBoard (plain 0 0 0 0x8100 0 [])) 2 + (0xFFFC : BitVec 16).signExtend 32) (onBoard (plain 0 0 0 0x8100 0 []))
      ∧ ReachesDevice .store 1 (readReg (onBoard (plain 0 0 0 0x8100 0 [])) 2 + (0xFFFC : BitVec 16).signExtend 32) (onBoard (plain 0 0 0 0x8100 0 []))
      ∧ ReachesDevice .store 2 (readReg (onBoard (plain 0 0 0 0x8100 0 [])) 2 + (0xFFFC : BitVec 16).signExtend 32) (onBoard (plain 0 0 0 0x8100 0 []))
      ∧ ({ onBoard (plain 0 0 0 0x8000 0 []) with lock := true }).lock = true
      ∧ ReachesDevice .store 4 (readReg { onBoard (plain 0 0 0 0x8000 0 []) with lock := true } 2)
        { onBoard (plain 0 0 0 0x8000 0 []) with lock := true } := by
  unfold ReachesDevice; decide

/-- UNLOCK with the LOCK bit 1 at an accessible address. -/
theorem witness_StoreResults_unlock :
    { plain 0 0 0 0xFFFFFFFC 0 [] with lock := true }.lock = true
      ∧ Accessible .store 4 (readReg { plain 0 0 0 0xFFFFFFFC 0 [] with lock := true } 2)
        { plain 0 0 0 0xFFFFFFFC 0 [] with lock := true } := by
  unfold Accessible; decide

/-- The incremented address wraps to 0, the decremented one to the top. -/
theorem witness_StoreUpdateResults :
    Memory.wf (plain 0 0 0 0xFFFFFFFC 0 []).mem = true ∧ (1 : RegNum) ≠ 2
      ∧ Accessible .store 4 (readReg (plain 0 0 0 0xFFFFFFFC 0 []) 2 + 4) (plain 0 0 0 0xFFFFFFFC 0 [])
      ∧ Accessible .store 4 (readReg (plain 0 0 0 0 0 []) 2 - 4) (plain 0 0 0 0 0 [])
      ∧ Accessible .store 1 (readReg (plain 0 0 0 0xFFFFFFFF 0 []) 2) (plain 0 0 0 0xFFFFFFFF 0 [])
      ∧ Accessible .store 2 (readReg (plain 0 0 0 0xFFFFFFFE 0 []) 2) (plain 0 0 0 0xFFFFFFFE 0 []) := by
  unfold Accessible; decide

theorem witness_MisalignedRaisesAe :
    (readReg (plain 0 0 0 0xFFFFFFFE 0 []) 2).toNat % 4 ≠ 0
      ∧ (readReg (plain 0 0 0 4 0 []) 2 + (0xFFFF : BitVec 16).signExtend 32).toNat % 4 ≠ 0 ∧ (1 : RegNum) ≠ 2
      ∧ { plain 0 0 0 0xFFFFFFFE 0 [] with lock := true }.lock = true
      ∧ (readReg (plain 0 0 0 0xFFFFFFFF 0 []) 2).toNat % 2 ≠ 0
      ∧ (readReg (plain 0 0 0 4 0 []) 2 + (0xFFFF : BitVec 16).signExtend 32).toNat % 2 ≠ 0 := by decide

theorem witness_BitMemoryResults_device :
    Memory.wf (onBoard (plain 0 0 0 0x80FE 0 [])).mem = true
      ∧ ReachesDevice .load 1 (readReg (onBoard (plain 0 0 0 0x80FE 0 [])) 2 + (1 : BitVec 16).signExtend 32) (onBoard (plain 0 0 0 0x80FE 0 []))
      ∧ ReachesDevice .store 1 (readReg (onBoard (plain 0 0 0 0x80FE 0 [])) 2 + (1 : BitVec 16).signExtend 32) (onBoard (plain 0 0 0 0x80FE 0 [])) := by
  unfold ReachesDevice; decide

theorem witness_BitMemoryResults :
    Memory.wf (plain 0 0 0 0xFFFFFFFF 0 []).mem = true
      ∧ Accessible .load 1 (readReg (plain 0 0 0 0xFFFFFFFF 0 []) 2 + (0 : BitVec 16).signExtend 32) (plain 0 0 0 0xFFFFFFFF 0 [])
      ∧ Accessible .store 1 (readReg (plain 0 0 0 0xFFFFFFFF 0 []) 2 + (0 : BitVec 16).signExtend 32) (plain 0 0 0 0xFFFFFFFF 0 []) := by
  unfold Accessible; decide

theorem witness_StoreThenLoadReturnsValue :
    Memory.wf (plain 0 0 7 0xFFFFFFFC 0 []).mem = true
      ∧ Accessible .store 4 (readReg (plain 0 0 7 0xFFFFFFFC 0 []) 2) (plain 0 0 7 0xFFFFFFFC 0 [])
      ∧ Accessible .load 4 (readReg (plain 0 0 7 0xFFFFFFFC 0 []) 2) (plain 0 0 7 0xFFFFFFFC 0 [])
      ∧ nextIs (exec (.stInd 1 2) (plain 0 0 7 0xFFFFFFFC 0 [])) (fun _ => true) = true := by
  unfold Accessible; decide

theorem witness_OnlyStoresWriteMemory :
    unitInstrs (fetchUnit (plain 0x1000 0 0 0 0 [(0x1000, 0x11), (0x1001, 0x80), (0x1002, 0x92), (0x1003, 0x81)])) = [.mv 1 0, .mv 2 1]
      ∧ memoryWriter (.mv 1 0) = false ∧ memoryWriter (.ldInd 1 2) = false ∧ condWriter (.mv 1 0) = false
      ∧ pairAllowed (.ldInd 1 2) (.addi 3 1) = true ∧ nextIs (execPair (.ldInd 1 2) (.addi 3 1) (plain 0 0 0 0 0 [])) (fun _ => true) = true
      ∧ nextIs (exec (.ldInd 1 2) (plain 0 0 0 0 0 [])) (fun _ => true) = true
      ∧ nextIs (step (plain 0x1000 0 0 0 0 [(0x1000, 0x11), (0x1001, 0x80), (0x1002, 0x92), (0x1003, 0x81)])) (fun _ => true) = true := by
  decide

/-- The three ways one step can be taken are met by these. -/
theorem witness_StepOf (s t : State) (h : step s = .next t) (hr : s.resetRequest = false) :
    StepOf (unitInstrs (fetchUnit s)) (unitLength (fetchUnit s)) s (.next t) := .inl ⟨hr, h.symm, rfl, rfl⟩

theorem witness_StoredWordIsNotExecuted :
    Accessible .store 4 (readReg (plain 0x1000 0 7 0x2000 0 []) 2) (plain 0x1000 0 7 0x2000 0 [])
      ∧ nextIs (exec (.stInd 1 2) (plain 0x1000 0 7 0x2000 0 [])) (fun t =>
        accessStop t.platform .fetch 0x2000 4 == none && !t.resetRequest && pendingEvent { t with pc := 0x2000 } == none
          && outsideAccess t.platform.userFetch { t with pc := 0x2000 } 0x2000 == none) = true := by
  unfold Accessible; decide

theorem witness_condition : psw_c (plain 0 1 0 0 0 []).psw = true ∧ psw_c (plain 0 0xCDCC 0 0 0 []).psw = false := by decide

theorem witness_CompareAndBranch :
    readReg (plain 0 0 5 5 0 []) 1 = readReg (plain 0 0 5 5 0 []) 2 ∧ readReg (plain 0 0 5 6 0 []) 1 ≠ readReg (plain 0 0 5 6 0 []) 2
      ∧ (readReg (plain 0 0 0x80000000 0 0 []) 1).toInt < 0 ∧ (readReg (plain 0 0 0 0 0 []) 1).toInt = 0
      ∧ 0 < (readReg (plain 0 0 0x7FFFFFFF 0 0 []) 1).toInt := by decide

theorem witness_NopAndLoneSkips :
    (plain 0xFFFFFFFE 0 0 0 0 []).pc.getLsbD 1 = true ∧ (plain 0xFFFFFFFC 0 0 0 0 []).pc.getLsbD 1 = false := by decide

theorem witness_TransferTargetsAreAligned :
    (Instr.jmp 1) ≠ .rte ∧ nextIs (exec (.jmp 1) (plain 0 0 0xFFFFFFFF 0 0 [])) (fun t => t.pc == 0xFFFFFFFC) = true := by decide

theorem witness_MoveFromControl : (4 : RegNum) = 4 ∧ 7 ≤ (7 : RegNum).toNat ∧ 7 ≤ (15 : RegNum).toNat
    ∧ Platform.reference.reservedControl = .refused ∧ board.reservedControl = .constant 0x12345678
    ∧ ({ board with reservedControl := .raises .rie }).reservedControl = .raises .rie := by decide

theorem witness_MoveToControl :
    userMode (plain 0x80000000 0xCDC5 8 0xFFFFFFF7 0 []) = false
      ∧ ¬ ((readReg (plain 0x80000000 0xCDC5 8 0xFFFFFFF7 0 []) 2).getLsbD 3 = true
        ∧ (plain 0x80000000 0xCDC5 8 0xFFFFFFF7 0 []).pc.getLsbD 31 = true)
      ∧ ¬ ((readReg (plain 0x7FFFFFFE 0 8 0 0 []) 1).getLsbD 3 = true ∧ (plain 0x7FFFFFFE 0 8 0 0 []).pc.getLsbD 31 = true)
      ∧ (readReg (plain 0x80000000 0xCDC5 8 0xFFFFFFF7 0 []) 1).getLsbD 3 = true
      ∧ (plain 0x80000000 0xCDC5 8 0xFFFFFFF7 0 []).pc.getLsbD 31 = true
      ∧ (plain 0 0 0 0 0 []).evbWritten = false ∧ { plain 0 0 0 0 0 [] with evbWritten := true }.evbWritten = true
      ∧ userMode { plain 0 0 0 0 0 [] with evbWritten := true } = false := by decide

theorem witness_SetAndClearPsw :
    userMode (plain 0x80000000 0 0 0 0 []) = false
      ∧ ¬ ((0xF7 : BitVec 8).getLsbD 3 = true ∧ (plain 0x80000000 0 0 0 0 []).pc.getLsbD 31 = true)
      ∧ (0x08 : BitVec 8).getLsbD 3 = true ∧ (plain 0x80000000 0 0 0 0 []).pc.getLsbD 31 = true := by decide

theorem witness_PrivilegedInUserMode :
    userMode (onBoard (plain 0x80000000 8 0 0xFFFFFFFC 0 [])) = true
      ∧ (readReg (onBoard (plain 0x80000000 8 0 0xFFFFFFFC 0 [])) 2).getLsbD 31 = true
      ∧ (readReg (onBoard (plain 0x80000000 8 0 0xFFFFFFFC 0 [])) 2).toNat % 4 = 0 ∧ board.userData = .raises .ae
      ∧ (onBoard (plain 0x80000000 8 0 0xFFFFFFFC 0 [])).pc.getLsbD 31 = true
      ∧ pendingEvent (onBoard (plain 0x80000000 8 0 0xFFFFFFFC 0 [])) = none ∧ board.userFetch = .raises .pie
      ∧ ({ board with userData := .refused, userFetch := .refused }).userData = .refused := by decide

theorem witness_UserModeKeepsPsw :
    userMode (plain 0 0xC9 1 2 0 []) = true
      ∧ nextIs (exec (.cmp 2 1) (plain 0 0xC9 1 2 0 [])) (fun t => t.psw == 0xC8) = true
      ∧ nextIs (exec (.trap 0) (plain 0 0xC9 1 2 0 [])) (fun t => t.psw == 0xC980) = true := by decide

theorem witness_UserModeKeepsPsw_pair :
    nextIs (execPair (.trap 0) (.cmp 2 1) (plain 0 0xC9 1 2 0 [])) (fun t => t.bpc == 4 && t.draws == 1) = true := by
  decide

theorem witness_OnlyListedInstructionsWriteC :
    condWriter (.add 1 2) = false ∧ nextIs (exec (.add 1 2) (plain 0 1 0xFFFFFFFF 1 0 [])) (fun t => t.psw == 1) = true
      ∧ condWriter (.ldInd 1 2) = false ∧ nextIs (exec (.ldInd 1 2) (plain 0 1 0 1 0 [])) (fun t => t.psw == 0x100) = true := by decide

theorem witness_TrapResult : (plain 0xFFFFFFFE 0 0 0 0 []).pc.getLsbD 0 = false := by decide

theorem witness_ReturnResult : userMode (plain 0 0xCDC5 0 0 0 []) = false := by decide

theorem witness_ReturnUndoesEntry : (0xFFFFFFFE : Word).getLsbD 0 = false := by decide

/-- A platform with two external sources, both of which have an entry. -/
def twoSources : Platform :=
  { Platform.reference with ei := [{ index := 0x20, clearsSM := true }, { index := 0x3FFF, clearsSM := false }], coprocessors := [0, 15] }

theorem witness_VectorsAreDistinct :
    ({ State.reset with platform := twoSources }).platform.wf = true ∧ 1 < twoSources.ei.length
      ∧ vectorAddress { State.reset with platform := twoSources } (.ei 1)
        = vectorAddress { State.reset with platform := twoSources } (.ei 1) := by decide

/-- A state of that platform with sources and the coprocessor asking. -/
def asking (psw : Word) (sources : List Nat) : State :=
  { plain 0x1000 psw 0 0 0 [] with platform := twoSources, eiPending := sources, cpiPending := true }

/-- Source 1 is the lowest pending; CPI with IE = 0, and with no external source that counts; everything asking and nothing enabled. -/
theorem witness_InterruptAcceptance :
    ((asking 0x40 [5, 1]).resetRequest = false ∧ psw_ie (asking 0x40 [5, 1]).psw = true ∧ 1 < (asking 0x40 [5, 1]).platform.ei.length
        ∧ 1 ∈ (asking 0x40 [5, 1]).eiPending ∧ ∀ j, j < 1 → j ∉ (asking 0x40 [5, 1]).eiPending)
      ∧ (psw_ie (asking 4 [0]).psw = false ∧ psw_ce (asking 4 [0]).psw = true ∧ (asking 4 [0]).cpiPending = true
        ∧ (asking 4 [0]).platform.coprocessors ≠ [])
      ∧ ((∀ j ∈ (asking 0x44 [2, 5]).eiPending, (asking 0x44 [2, 5]).platform.ei.length ≤ j) ∧ psw_ce (asking 0x44 [2, 5]).psw = true)
      ∧ (psw_ie (asking 0 [0]).psw = false ∧ psw_ce (asking 0 [0]).psw = false
        ∧ outsideAccess (asking 0 [0]).platform.userFetch (asking 0 [0]) (fetchAddress (asking 0 [0])) = none
        ∧ fetchStop (asking 0 [0]) = none) := by decide

theorem witness_DspSumAndRounding : (1 = 1 ∨ 1 = 2) ∧ (2 = 1 ∨ 2 = 2) := by decide

theorem witness_CoprocessorResults :
    (6 : BitVec 12) ∈ (onBoard State.reset).platform.coprocessors ∧ (6 : BitVec 12) ∉ (onBoard State.reset).copDisabled
      ∧ (0xFFF : BitVec 12) ∉ (onBoard State.reset).platform.coprocessors
      ∧ (6 : BitVec 12) ∈ ({ onBoard State.reset with copDisabled := [6] }).copDisabled := by decide

/-- An allowed pair whose halves write: one register each, a shared register and a shared C, and an accumulator below a load. -/
theorem witness_PairReadsStateBefore :
    (1 : RegNum) ≠ 2 ∧ pairAllowed (.addv 1 2) (.subv 1 3) = true
      ∧ (∃ eu el, action .pair (.addv 1 2) (plain 0 0 1 2 3 []) = .writes eu ∧ eu.cancels = false
        ∧ action .pair (.subv 1 3) (plain 0 0 1 2 3 []) = .writes el ∧ writesSlot eu.regs (.r 1) = true
        ∧ writesSlot el.regs (.r 1) = true ∧ eu.cond.isSome = true ∧ el.cond.isSome = true)
      ∧ pairAllowed (.ldInd 1 2) (.mulhi 2 3 1) = true
      ∧ (∃ eu el, action .pair (.ldInd 1 2) (plain 0 0 1 4 3 []) = .writes eu ∧ eu.cancels = false
        ∧ action .pair (.mulhi 2 3 1) (plain 0 0 1 4 3 []) = .writes el ∧ el.acc1.isSome = true ∧ el.cond = none) :=
  ⟨by decide, by decide, ⟨_, _, rfl, rfl, rfl, by decide, by decide, by decide, by decide⟩, by decide,
    ⟨_, _, rfl, rfl, rfl, by decide, by decide⟩⟩

/-- `BL || MV R14,R1` leaves R14 open, the R14 of BCL not taken is the partner's, RTE and TRAP beside a comparison leave C open
(R323, examples 7 and 8). -/
theorem witness_PairControlTransfers :
    category (.mv 14 1) = some .both ∧ category (.mulhi 1 2 0) = some .right
      ∧ nextIs (execPair (.bl8 1) (.mv 14 1) (plain 0xFFFFFFFC 0 5 0 0 [])) (fun t => t.pc == 0 && t.draws == 1) = true
      ∧ nextIs (execPair (.bcl8 1) (.mv 14 1) (plain 0xFFFFFFFC 0 5 0 0 [])) (fun t => readReg t 14 == 5 && t.pc == 0 && t.draws == 0) = true
      ∧ nextIs (execPair .rte (.addx 1 2) { plain 0x1000 0x4401 5 6 0 [] with bpc := 0x2002 })
        (fun t => t.pc == 0x2002 && readReg t 1 == 12 && t.draws == 1) = true
      ∧ nextIs (execPair (.trap 1) (.cmp 1 2) (plain 0x1000 1 5 6 0 []))
        (fun t => t.bpc == 0x1004 && t.draws == 1) = true
      ∧ userMode (plain 0x1000 0x4401 5 6 0 []) = false ∧ (plain 0xFFFFFFFC 0 0 0 0 []).pc.getLsbD 0 = false
      ∧ psw_c (plain 0 1 0 0 0 []).psw = true ∧ psw_c (plain 0 0 0 0 0 []).psw = false := by decide

theorem witness_PairControlTransfers_leaves : LeavesSlot (.addi 15 1) (.r 14) (plain 0 0 0 0 0 []) ∧ LeavesCond (.mv 14 1) (plain 0 1 0 0 0 []) :=
  ⟨⟨_, rfl, by decide⟩, ⟨_, rfl, rfl⟩⟩

theorem witness_LowerHalf : category (.add 1 2) = some .both ∧ category (.mul 1 2) = some .right := by decide

/-- An upper half that raises, and words in which one half does not decode. -/
theorem witness_PairExceptions :
    action .pair (.mvtc 1 0) (plain 0x1000 8 0 0 0 []) = .raises .pie
      ∧ Fetches (plain 0x1000 0 0 0 0 [(0x1000, 0x41), (0x1001, 0x01), (0x1002, 0x81), (0x1003, 0x70)])
      ∧ decode16 ((readWord [(0x1000, 0x41), (0x1001, 0x01), (0x1002, 0x81), (0x1003, 0x70)] 0x1000).extractLsb' 0 16) = none
      ∧ inRieSet16 Encoding.standard ((readWord [(0x1000, 0x41), (0x1001, 0x01), (0x1002, 0x81), (0x1003, 0x70)] 0x1000).extractLsb' 0 16) = true
      ∧ (readWord [(0x1000, 0x41), (0x1001, 0x01), (0x1002, 0x81), (0x1003, 0x70)] 0x1000).getLsbD 31 = false
      ∧ (readWord [(0x1000, 0x41), (0x1001, 0x01), (0x1002, 0x81), (0x1003, 0x70)] 0x1000).getLsbD 15 = true := by
  unfold Fetches; decide

/-- Entry at the lower half of a pair, and a pair with a load below. -/
theorem witness_RefusedPlacements :
    Fetches (plain 0x1002 0 0 0 0 [(0x1002, 0xF0)]) ∧ (plain 0x1002 0 0 0 0 []).pc.getLsbD 1 = true
      ∧ (readWord [(0x1002, 0xF0)] (wordFloor 0x1002)).getLsbD 15 = true
      ∧ Fetches (plain 0x1000 0 0 0 0 [(0x1000, 0x01), (0x1001, 0xA2), (0x1002, 0xA3), (0x1003, 0xC4)])
      ∧ decode16 ((readWord [(0x1000, 0x01), (0x1001, 0xA2), (0x1002, 0xA3), (0x1003, 0xC4)] 0x1000).extractLsb' 16 16)
        = some (.add 1 2)
      ∧ decode16 ((readWord [(0x1000, 0x01), (0x1001, 0xA2), (0x1002, 0xA3), (0x1003, 0xC4)] 0x1000).extractLsb' 0 16)
        = some (.ldInd 3 4)
      ∧ category (.ldInd 3 4) = some .left ∧ category (.mul 1 2) = some .right ∧ (Instr.addi 3 1) ≠ .nop := by
  unfold Fetches; decide

theorem witness_BranchToSelfIsRest : AtRest (plain 0xFFFFFFFC 0 0 0 0 [(0xFFFFFFFC, 0xFF)]) := by
  unfold AtRest Fetches; decide

end Sys2Proof.Tests
end

section
/-! What a step can do, once, and the environment it keeps: every next state is that of a reset or of one commit (EIT entry is a
commit too), and a commit reaches the environment only through the answers it uses up and the records it extends. -/

namespace Sys2Proof.Machine

/-! ### What a step can do -/

/-- With nothing between the unit and the address after it, every event saves the pc, whatever `EIT_BPC_POLICY` says. -/
theorem savedPc_self (p : Platform) (ev : Event) (pc : Word) : savedPc p ev pc pc = pc := by
  cases ev <;> simp [savedPc]

/-- The platform's rule for user mode turns an access away by an event or by a stop, never by a write. -/
theorem outsideAccess_ne_writes (policy : OutsideAccess) (s : State) (a : Word) (e : Effect) :
    outsideAccess policy s a ≠ some (.writes e) := by
  unfold outsideAccess
  split
  · cases policy <;> simp
  · simp

/-- If a step answers a next state, it took the reset, an interrupt, the event of a fetch turned away, or carried out the unit it
fetched (R310, R344). -/
theorem step_eq_next {s t : State} (h : step s = .next t) :
    (s.resetRequest = true ∧ t = takeReset s)
      ∨ (s.resetRequest = false ∧ ∃ ev, pendingEvent s = some ev ∧ t = enterEIT ev s.pc s)
      ∨ (s.resetRequest = false ∧ pendingEvent s = none
        ∧ ∃ ev, outsideAccess s.platform.userFetch s (fetchAddress s) = some (.raises ev) ∧ t = enterEIT ev s.pc s)
      ∨ (Fetches s ∧ execUnit (fetchUnit s) s = .next t) := by
  unfold step at h
  cases hreset : s.resetRequest with
  | true => exact .inl ⟨rfl, by simpa [hreset] using h.symm⟩
  | false =>
    simp only [hreset, Bool.false_eq_true, if_false] at h
    cases hpend : pendingEvent s with
    | some ev => exact .inr (.inl ⟨rfl, ev, rfl, by simpa [hpend] using h.symm⟩)
    | none =>
      simp only [hpend] at h
      cases hout : outsideAccess s.platform.userFetch s (fetchAddress s) with
      | some out =>
        simp only [hout] at h
        rcases finish_eq_next h with ⟨e, rfl, -⟩ | ⟨ev, rfl, ht⟩
        · exact absurd hout (outsideAccess_ne_writes _ _ _ e)
        · rw [show s.pc + 0 = s.pc from BitVec.add_zero s.pc, savedPc_self] at ht
          exact .inr (.inr (.inl ⟨rfl, rfl, ev, rfl, ht⟩))
      | none =>
        simp only [hout] at h
        cases hstop : fetchStop s with
        | some st => cases st <;> simp [hstop, stopResult] at h
        | none => exact .inr (.inr (.inr ⟨⟨hreset, hpend, hout, hstop⟩, by simpa [hstop] using h⟩))

/-! ### Every other next state is one commit -/

theorem finish_eq_commit {len : Word} {a : Action} {s t : State} (h : finish len a s = .next t) :
    ∃ e next, t = commit e next s := by
  rcases finish_eq_next h with ⟨e, -, ht⟩ | ⟨ev, -, ht⟩
  · exact ⟨e, _, ht⟩
  · exact ⟨entryEffect ev _ s, _, ht⟩

theorem execUnit_eq_commit {u : Fetched} {s t : State} (h : execUnit u s = .next t) : ∃ e next, t = commit e next s := by
  cases u with
  | single i => exact finish_eq_commit ((exec_eq_finish i s).symm.trans h)
  | pair u l => exact finish_eq_commit h
  | reserved len => exact finish_eq_commit (a := .raises .rie) h
  | unassigned => cases h
  | badPair => cases h
  | badEntry => cases h

theorem step_eq_reset_or_commit {s t : State} (h : step s = .next t) :
    t = takeReset s ∨ ∃ e next, t = commit e next s := by
  rcases step_eq_next h with ⟨-, ht⟩ | ⟨-, ev, -, ht⟩ | ⟨-, -, ev, -, ht⟩ | ⟨-, hunit⟩
  · exact .inl ht
  · exact .inr ⟨entryEffect ev s.pc s, s.pc, ht⟩
  · exact .inr ⟨entryEffect ev s.pc s, s.pc, ht⟩
  · exact .inr (execUnit_eq_commit hunit)

/-! ### The environment -/

/-- From `s` to `t` the environment is kept: the platform and the pending inputs stay, answers are used up in order, and the
records of what was sent grow (D11, logs 4 and 17). The reset request is not part of it: a reset consumes it (log 18). -/
structure KeepsEnvironment (s t : State) : Prop where
  platform : t.platform = s.platform
  eiPending : t.eiPending = s.eiPending
  cpiPending : t.cpiPending = s.cpiPending
  copDisabled : t.copDisabled = s.copDisabled
  copAnswers : ∃ n, t.copAnswers = s.copAnswers.drop n
  deviceAnswers : ∃ n, t.deviceAnswers = s.deviceAnswers.drop n
  copRequests : ∃ sent, t.copRequests = s.copRequests ++ sent
  deviceAccesses : ∃ issued, t.deviceAccesses = s.deviceAccesses ++ issued

theorem commit_keepsEnvironment (e : Effect) (next : Word) (s : State) : KeepsEnvironment s (commit e next s) where
  platform := commit_platform e next s
  eiPending := commit_eiPending e next s
  cpiPending := commit_cpiPending e next s
  copDisabled := commit_copDisabled e next s
  copAnswers := ⟨e.copReads, commit_copAnswers e next s⟩
  deviceAnswers := ⟨e.deviceReads, commit_deviceAnswers e next s⟩
  copRequests := ⟨e.cop.toList, commit_copRequests e next s⟩
  deviceAccesses := ⟨e.device, commit_deviceAccesses e next s⟩

theorem takeReset_keepsEnvironment (s : State) : KeepsEnvironment s (takeReset s) where
  platform := takeReset_platform s
  eiPending := takeReset_eiPending s
  cpiPending := takeReset_cpiPending s
  copDisabled := takeReset_copDisabled s
  copAnswers := ⟨0, takeReset_copAnswers s⟩
  deviceAnswers := ⟨0, takeReset_deviceAnswers s⟩
  copRequests := ⟨[], by simp⟩
  deviceAccesses := ⟨[], by simp⟩

theorem step_keepsEnvironment {s t : State} (h : step s = .next t) : KeepsEnvironment s t := by
  rcases step_eq_reset_or_commit h with rfl | ⟨e, next, rfl⟩
  · exact takeReset_keepsEnvironment s
  · exact commit_keepsEnvironment e next s

/-- Settles O60: a step's next state is that of a reset or of one commit, and both keep the environment. -/
theorem stepKeepsEnvironment : Obligations.StepKeepsEnvironment := by
  intro s t h
  obtain ⟨hplatform, hei, hcpi, hdisabled, hcop, hdevice, hsent, hissued⟩ := step_keepsEnvironment h
  exact ⟨hplatform, hei, hcpi, hdisabled, hcop, hdevice, hsent, hissued⟩

end Sys2Proof.Machine
end

section
/-! The state (`10_state.md`): its invariant, reset, where the pc goes, who writes C, what R15 names. A step other than a reset enters
EIT or commits one effect made of its instructions' effects, so a claim about steps is one about EIT entry and one about the effects
of instructions. -/

namespace Sys2Proof.Machine

/-! ### Reserved bits -/

/-- A word cut to a mask has no bit of a mask apart from it. -/
theorem and_and_eq_zero (v : Word) {a m : Word} (h : a &&& m = 0) : (v &&& a) &&& m = 0 := by
  simp [BitVec.and_assoc, h]

/-- Cutting a word gives it no new bit. -/
theorem and_and_eq_zero_of_left {v m : Word} (h : v &&& m = 0) (a : Word) : (v &&& a) &&& m = 0 := by
  rw [BitVec.and_comm v a]
  exact and_and_eq_zero a h

theorem or_and_eq_zero {a b m : Word} (ha : a &&& m = 0) (hb : b &&& m = 0) : (a ||| b) &&& m = 0 := by
  rw [BitVec.and_comm] at ha hb ⊢
  simp [BitVec.and_or_distrib_left, ha, hb]

/-- C is an implemented bit, so writing it keeps the reserved bits 0 (R24, R25). -/
theorem withCond_reserved {p : Word} (h : p &&& ~~~pswMask = 0) (c : Bool) : withCond p c &&& ~~~pswMask = 0 :=
  or_and_eq_zero (and_and_eq_zero_of_left h _) (by cases c <;> decide)

theorem entryPsw_reserved (clearsSM : Bool) (p : Word) : entryPsw clearsSM p &&& ~~~pswMask = 0 := by
  refine or_and_eq_zero ?_ ?_
  · rw [BitVec.shiftLeft_and_distrib]
    exact and_and_eq_zero _ (by decide)
  · cases clearsSM
    · exact and_and_eq_zero _ (by decide)
    · simp

theorem returnPsw_reserved (p : Word) : returnPsw p &&& ~~~pswMask = 0 :=
  or_and_eq_zero (and_and_eq_zero _ (by decide)) (and_and_eq_zero _ (by decide))

theorem clearPsw_reserved {p : Word} (h : p &&& ~~~pswMask = 0) (imm8 : BitVec 8) : clearPsw p imm8 &&& ~~~pswMask = 0 :=
  and_and_eq_zero_of_left h _

/-- SETPSW names bits of the low byte only, and drops the reserved ones of them (D16). -/
theorem setPsw_reserved {p : Word} (h : p &&& ~~~pswMask = 0) (imm8 : BitVec 8) : setPsw p imm8 &&& ~~~pswMask = 0 := by
  have named : ∀ b : BitVec 8, b.setWidth 32 &&& 0xFFFFFFCD &&& ~~~pswMask = 0 := by decide
  rw [setPsw, BitVec.and_comm (_ ||| _), BitVec.and_or_distrib_left, BitVec.and_comm _ p, BitVec.and_comm _ (imm8.setWidth 32)]
  exact or_and_eq_zero (and_and_eq_zero_of_left h _) (named imm8)

/-- A reset leaves only backup bits of the PSW open (R60, R390). -/
theorem resetPsw_stated (n : Nat) : resetPsw n &&& 0xFFFF32FF = 0 := by
  have bit : ∀ (b : Bool) (k : Nat), (1#32 <<< k) &&& 0xFFFF32FF = 0 → (boolWord b <<< k) &&& 0xFFFF32FF = 0 := by
    intro b k hk
    cases b
    · simp [boolWord]
    · exact hk
  exact or_and_eq_zero (or_and_eq_zero (or_and_eq_zero (or_and_eq_zero (bit _ 15 (by decide)) (bit _ 14 (by decide)))
    (bit _ 11 (by decide))) (bit _ 10 (by decide))) (bit _ 8 (by decide))

theorem resetPsw_reserved (n : Nat) : resetPsw n &&& ~~~pswMask = 0 := by
  have part : ~~~pswMask = 0xFFFF32FF &&& ~~~pswMask := by decide
  rw [part, ← BitVec.and_assoc, resetPsw_stated]
  rfl

theorem resetPsw_sm (n : Nat) : psw_sm (resetPsw n) = false := by
  have h := congrArg (fun w => BitVec.getLsbD w 7) (resetPsw_stated n)
  simpa [psw_sm] using h

/-! ### Word boundaries -/

theorem mod_four_iff (v : Word) : v.toNat % 4 = 0 ↔ v.getLsbD 0 = false ∧ v.getLsbD 1 = false := by
  simp only [BitVec.getLsbD, Nat.testBit_eq_decide_div_mod_eq, decide_eq_false_iff_not]
  omega

theorem even_of_mod_four {v : Word} (h : v.toNat % 4 = 0) : v.getLsbD 0 = false :=
  ((mod_four_iff v).mp h).1

theorem add_mod_four {a b : Word} (ha : a.toNat % 4 = 0) (hb : b.toNat % 4 = 0) : (a + b).toNat % 4 = 0 := by
  rw [BitVec.toNat_add]
  omega

theorem wordBase_mod_four (pc : Word) : (wordBase pc).toNat % 4 = 0 := by
  rw [mod_four_iff]
  simp [wordBase]

theorem jumpTarget_mod_four (v : Word) : (jumpTarget v).toNat % 4 = 0 := wordBase_mod_four v

theorem branchTarget_mod_four {n : Nat} (pc : Word) (disp : BitVec n) : (branchTarget pc disp).toNat % 4 = 0 := by
  refine add_mod_four (wordBase_mod_four pc) ?_
  rw [mod_four_iff]
  simp

/-- Every event enters at a word boundary (R351). -/
theorem vectorAddress_mod_four (s : State) (ev : Event) : (vectorAddress s ev).toNat % 4 = 0 := by
  refine add_mod_four ?_ ?_
  · rw [mod_four_iff]
    simp
  · rw [BitVec.toNat_setWidth, BitVec.toNat_append, Nat.shiftLeft_eq]
    simp

theorem add_even {a b : Word} (ha : a.getLsbD 0 = false) (hb : b.getLsbD 0 = false) : (a + b).getLsbD 0 = false := by
  simp only [BitVec.getLsbD, Nat.testBit_zero, decide_eq_false_iff_not, BitVec.toNat_add] at *
  omega

theorem and_not_one_even (v : Word) : (v &&& 0xFFFFFFFE).getLsbD 0 = false := by
  simp

/-! ### What the effect of an instruction writes -/

/-- Every effect that the action commits satisfies `P`; an exception or a stop commits none. -/
def Action.Commits (P : Effect → Prop) (a : Action) : Prop :=
  ∀ e, a = .writes e → P e

section
variable {P : Effect → Prop}

theorem commits_writes {e : Effect} (h : P e) : Action.Commits P (.writes e) := by
  rintro _ ⟨⟩
  exact h

theorem commits_raises (ev : Event) : Action.Commits P (.raises ev) := by
  rintro e ⟨⟩

theorem commits_stops (st : Stop) : Action.Commits P (.stops st) := by
  rintro e ⟨⟩

theorem commits_ite {c : Prop} [Decidable c] {a b : Action} (ha : a.Commits P) (hb : b.Commits P) :
    Action.Commits P (if c then a else b) := by
  split
  · exact ha
  · exact hb

theorem commits_checked {k : Access} {n : Nat} {ea : Word} {s : State} {act : Action} (h : act.Commits P) :
    (checked k n ea s act).Commits P :=
  fun e he => h e (checked_eq_writes he)

theorem commits_privileged {s : State} {act : Action} (h : act.Commits P) : (privileged s act).Commits P :=
  fun e he => h e (privileged_eq_writes he)

theorem commits_checkedPm {s : State} {new : Word} {act : Action} (h : act.Commits P) : (checkedPm s new act).Commits P :=
  fun e he => h e (checkedPm_eq_writes he)

theorem commits_withCoprocessor {cpid : BitVec 12} {s : State} {act : Action} (h : act.Commits P) :
    (withCoprocessor cpid s act).Commits P :=
  commits_ite (commits_raises _) h

theorem commits_reservedControl {s : State} {cr : BitVec 4} {ok : Word → Action} (h : ∀ v, (ok v).Commits P) :
    (reservedControl s cr ok).Commits P := by
  rcases reservedControl_cases s cr ok with h' | ⟨ev, h'⟩ | ⟨v, h'⟩ <;> rw [h']
  · exact commits_stops _
  · exact commits_raises ev
  · exact h v

end

/-- The instructions that write PSW, EVB or BPC as registers (R165, R263 to R266). -/
def controlWriter : Instr → Bool
  | .mvtc _ _ | .setpsw _ | .clrpsw _ | .trap _ | .rte => true
  | _ => false

/-- What an effect of the other instructions `i` is: of the control registers it writes C at most, and C only where `i` is a listed
writer (R28); the pc, where it is set, is at a word boundary (R55). -/
structure DataEffect (i : Instr) (e : Effect) : Prop where
  psw : e.psw = none
  evb : e.evb = none
  bpc : e.bpc = none
  cond : condWriter i = false → e.cond = none
  pc : ∀ v, e.pc = some v → v.toNat % 4 = 0

section
variable {i : Instr} {s : State}

/-- An effect on registers, accumulators, memory and the environment alone. -/
theorem dataEffect_of_none {e : Effect} (hpsw : e.psw = none := by rfl) (hevb : e.evb = none := by rfl)
    (hbpc : e.bpc = none := by rfl) (hcond : e.cond = none := by rfl) (hpc : e.pc = none := by rfl) : DataEffect i e :=
  ⟨hpsw, hevb, hbpc, fun _ => hcond, by simp [hpc]⟩

theorem dataEffect_setReg (r : RegNum) (v : Word) : DataEffect i (setReg s r v) :=
  dataEffect_of_none

theorem dataEffect_setCond (h : condWriter i = true) (c : Bool) : DataEffect i (setCond c) :=
  ⟨rfl, rfl, rfl, by simp [h], nofun⟩

theorem dataEffect_setRegCond (h : condWriter i = true) (r : RegNum) (v : Word) (c : Bool) :
    DataEffect i (setRegCond s r v c) :=
  ⟨rfl, rfl, rfl, by simp [h], nofun⟩

theorem dataEffect_setAcc (a : AccNum) (v : AccView) : DataEffect i (setAcc a v) := by
  unfold setAcc
  split <;> exact dataEffect_of_none

theorem dataEffect_noEffect : DataEffect i noEffect :=
  dataEffect_of_none

theorem dataEffect_regs (regs : List (Slot × Word)) : DataEffect i { regs := regs } :=
  dataEffect_of_none

theorem dataEffect_withRead {e : Effect} (h : DataEffect i e) (ea : Word) (n : Nat) : DataEffect i (withRead ea n s e) := by
  obtain ⟨hpsw, hevb, hbpc, hcond, hpc⟩ := h
  unfold withRead
  split <;> exact ⟨hpsw, hevb, hbpc, hcond, hpc⟩

theorem dataEffect_withWrite {e : Effect} (h : DataEffect i e) (ea : Word) (bytes : List Byte) :
    DataEffect i (withWrite ea bytes s e) := by
  obtain ⟨hpsw, hevb, hbpc, hcond, hpc⟩ := h
  unfold withWrite
  split <;> exact ⟨hpsw, hevb, hbpc, hcond, hpc⟩

theorem dataEffect_loadAction (n : Nat) (ea : Word) (dest : RegNum) (ext : Word → Word) :
    (loadAction n ea dest ext s).Commits (DataEffect i) :=
  commits_checked (commits_writes (dataEffect_withRead (dataEffect_setReg _ _) _ _))

theorem dataEffect_storeAction (ea : Word) (bytes : List Byte) (regs : List (Slot × Word)) :
    (storeAction ea bytes regs s).Commits (DataEffect i) :=
  commits_checked (commits_writes (dataEffect_withWrite (dataEffect_regs regs) _ _))

theorem dataEffect_modifyByte (ea : Word) (f : Byte → Byte) : (modifyByte ea f s).Commits (DataEffect i) :=
  commits_checked (commits_checked (commits_writes
    (dataEffect_withWrite (dataEffect_withRead (dataEffect_regs []) _ _) _ _)))

theorem dataEffect_divideAction (dest src : RegNum) (quot : Word → Word) :
    (divideAction s dest src quot).Commits (DataEffect i) :=
  commits_ite (commits_writes (dataEffect_regs [])) (commits_writes (dataEffect_setReg _ _))

theorem dataEffect_freeResult (dest : RegNum) : (freeResult s dest).Commits (DataEffect i) :=
  commits_writes dataEffect_of_none

theorem dataEffect_branchIf (c : Bool) {target : Word} (h : target.toNat % 4 = 0) :
    (branchIf c target).Commits (DataEffect i) := by
  cases c
  · exact commits_writes dataEffect_noEffect
  · exact commits_writes ⟨rfl, rfl, rfl, fun _ => rfl, fun _ hv => Option.some.inj hv ▸ h⟩

theorem dataEffect_branchLinkIf (c : Bool) {target : Word} (h : target.toNat % 4 = 0) :
    (branchLinkIf c target s).Commits (DataEffect i) := by
  cases c
  · exact commits_writes dataEffect_noEffect
  · exact commits_writes ⟨rfl, rfl, rfl, fun _ => rfl, fun _ hv => Option.some.inj hv ▸ h⟩

theorem dataEffect_skipAction (pos : Position) (c : Bool) : (skipAction pos c s).Commits (DataEffect i) := by
  cases pos
  · exact commits_ite (commits_writes dataEffect_noEffect) (commits_stops _)
  · exact commits_writes dataEffect_of_none

theorem dataEffect_mvfcAction (dest : RegNum) (cr : BitVec 4) : (mvfcAction dest cr s).Commits (DataEffect i) := by
  unfold mvfcAction
  split
  · exact commits_writes (dataEffect_setReg _ _)
  · exact commits_reservedControl (fun v => commits_writes (dataEffect_setReg _ v))

end

/-- By the shape of each meaning: a load, a store, a register, flag or accumulator write, a branch, a request. -/
theorem action_dataEffect {i : Instr} (h : controlWriter i = false) (pos : Position) (s : State) :
    (action pos i s).Commits (DataEffect i) := by
  cases i with dsimp only [action]
  | mvtc | setpsw | clrpsw | trap | rte => cases h
  | ldInd | ldDisp | ldbInd | ldbDisp | ldubInd | ldubDisp | ldhInd | ldhDisp | lduhInd | lduhDisp =>
    exact dataEffect_loadAction _ _ _ _
  | ldPost =>
    exact commits_ite (commits_stops _) (commits_checked (commits_writes (dataEffect_withRead (dataEffect_regs _) _ _)))
  | lock =>
    exact commits_checked (commits_writes (dataEffect_withRead dataEffect_of_none _ _))
  | stInd | stDisp | stbInd | stbPost | stbDisp | sthInd | sthPost | sthDisp => exact dataEffect_storeAction _ _ _
  | stPreInc | stPreDec => exact commits_ite (commits_stops _) (dataEffect_storeAction _ _ _)
  | unlock =>
    exact commits_ite (commits_checked (commits_writes (dataEffect_withWrite dataEffect_of_none _ _)))
      (commits_writes dataEffect_of_none)
  | mvfc dest cr => exact dataEffect_mvfcAction dest cr
  | cmp | cmpeq | cmpi | cmpu | cmpui | cmpz | pcmpbz | btst => exact commits_writes (dataEffect_setCond rfl _)
  | addv | addv3 | addx | subv | subx => exact commits_writes (dataEffect_setRegCond rfl _ _ _)
  | ld24 | ldi8 | ldi16 | mv | seth | add | add3 | addi | neg | sub | and | and3 | not | or | or3 | xor | xor3 | sll | sll3 | slli
  | sra | sra3 | srai | srl | srl3 | srli | mvfachi | mvfaclo | mvfacmi | satb | sath =>
    exact commits_writes (dataEffect_setReg _ _)
  | mul => exact commits_writes dataEffect_of_none
  | div | rem => exact commits_ite (dataEffect_freeResult _) (dataEffect_divideAction _ _ _)
  | divb | divh | divu | divub | divuh | remb | remh | remu | remub | remuh => exact dataEffect_divideAction _ _ _
  | mulhi | mullo | mulwhi | mulwlo | mulwu1 | machi | maclo | macwhi | macwlo | maclh1 | macwu1 | msblo | sadd | rac | rach
  | mvtachi | mvtaclo =>
    exact commits_writes (dataEffect_setAcc _ _)
  | bc8 | bc24 | bnc8 | bnc24 | bra8 | bra24 | beq | bne | beqz | bnez | bltz | bgez | blez | bgtz =>
    exact dataEffect_branchIf _ (branchTarget_mod_four _ _)
  | bcl8 | bcl24 | bl8 | bl24 | bncl8 | bncl24 => exact dataEffect_branchLinkIf _ (branchTarget_mod_four _ _)
  | jc | jmp | jnc => exact dataEffect_branchIf _ (jumpTarget_mod_four _)
  | jl => exact dataEffect_branchLinkIf _ (jumpTarget_mod_four _)
  | nop => exact commits_writes dataEffect_noEffect
  | sc | snc => exact dataEffect_skipAction _ _
  | bclr | bset => exact dataEffect_modifyByte _ _
  | mvfcp | mvtcp | opecp => exact commits_withCoprocessor (commits_writes dataEffect_of_none)

theorem controlWriter_of_not_condWriter {i : Instr} (h : condWriter i = false) : controlWriter i = false := by
  cases i with
  | mvtc | setpsw | clrpsw | trap | rte => cases h
  | _ => rfl

/-! ### Effects that keep the invariant -/

/-- The values an effect may write while the invariant holds: even pc and BPC, no reserved bit of PSW and EVB. -/
structure InvEffect (e : Effect) : Prop where
  pc : ∀ v, e.pc = some v → v.getLsbD 0 = false
  bpc : ∀ v, e.bpc = some v → v.getLsbD 0 = false
  psw : ∀ v, e.psw = some v → v &&& ~~~pswMask = 0
  evb : ∀ v, e.evb = some v → v &&& ~~~0x7FFF0000 = 0

theorem DataEffect.invEffect {i : Instr} {e : Effect} (h : DataEffect i e) : InvEffect e where
  pc v hv := even_of_mod_four (h.pc v hv)
  bpc _ hv := by simp [h.bpc] at hv
  psw _ hv := by simp [h.psw] at hv
  evb _ hv := by simp [h.evb] at hv

theorem entryEffect_invEffect (ev : Event) (ret : Word) (s : State) : InvEffect (entryEffect ev ret s) where
  pc _ hv := Option.some.inj hv ▸ even_of_mod_four (vectorAddress_mod_four s ev)
  bpc _ hv := Option.some.inj hv ▸ and_not_one_even ret
  psw _ hv := Option.some.inj hv ▸ entryPsw_reserved _ _
  evb _ hv := nomatch hv

theorem returnEffect_invEffect (s : State) : InvEffect (returnEffect s) where
  pc _ hv := Option.some.inj hv ▸ and_not_one_even s.bpc
  bpc _ hv := nomatch hv
  psw _ hv := Option.some.inj hv ▸ returnPsw_reserved _
  evb _ hv := nomatch hv

/-- A write of the PSW without reserved bits. -/
theorem psw_invEffect {p : Word} (h : p &&& ~~~pswMask = 0) (c : Option Bool) : InvEffect { psw := some p, cond := c } where
  pc _ hv := nomatch hv
  bpc _ hv := nomatch hv
  psw _ hv := Option.some.inj hv ▸ h
  evb _ hv := nomatch hv

/-- A value that one of two halves writes is a value of one of them (R320). -/
theorem forall_or_eq_some {α : Type} {p : α → Prop} {a b : Option α} (ha : ∀ v, a = some v → p v) (hb : ∀ v, b = some v → p v) :
    ∀ v, a.or b = some v → p v :=
  fun v h => (Option.or_eq_some_iff.mp h).elim (ha v) (fun hbv => hb v hbv.2)

theorem mergeEffects_invEffect (n : Nat) {u l : Effect} (hu : InvEffect u) (hl : InvEffect l) :
    InvEffect (mergeEffects n u l) where
  pc := forall_or_eq_some hu.pc hl.pc
  bpc := forall_or_eq_some hu.bpc hl.bpc
  psw := forall_or_eq_some hu.psw hl.psw
  evb := forall_or_eq_some hu.evb hl.evb

theorem regs_invEffect (regs : List (Slot × Word)) : InvEffect { regs := regs } :=
  ⟨nofun, nofun, nofun, nofun⟩

/-- MVTC goes on in order, and drops the reserved bits of what it writes (R31, R33, D16). -/
theorem writeControl_invEffect (cr : BitVec 4) (v : Word) (s : State) :
    (writeControl cr v s).Commits (fun e => e.pc = none ∧ InvEffect e) := by
  unfold writeControl
  split
  · exact commits_checkedPm (commits_writes ⟨rfl, psw_invEffect (and_and_eq_zero v (by decide)) _⟩)
  · exact commits_writes ⟨rfl, regs_invEffect []⟩
  · exact commits_writes ⟨rfl, regs_invEffect _⟩
  · exact commits_writes ⟨rfl, regs_invEffect _⟩
  · exact commits_ite (commits_stops _) (commits_writes
      ⟨rfl, nofun, nofun, nofun, fun _ h => Option.some.inj h ▸ and_and_eq_zero v (by decide)⟩)
  · exact commits_writes ⟨rfl, nofun, fun _ h => Option.some.inj h ▸ and_not_one_even v, nofun, nofun⟩
  · exact commits_reservedControl (fun _ => commits_writes ⟨rfl, regs_invEffect []⟩)

/-! ### Every instruction -/

theorem action_invEffect {s : State} (hs : Inv s) (pos : Position) (i : Instr) : (action pos i s).Commits InvEffect := by
  cases hc : controlWriter i with
  | false => exact fun e he => (action_dataEffect hc pos s e he).invEffect
  | true =>
    cases i with
    | mvtc src cr => exact commits_privileged (fun e he => (writeControl_invEffect cr _ s e he).2)
    | setpsw imm8 =>
      exact commits_privileged (commits_checkedPm (commits_writes (psw_invEffect (setPsw_reserved hs.psw imm8) _)))
    | clrpsw imm8 => exact commits_privileged (commits_writes (psw_invEffect (clearPsw_reserved hs.psw imm8) _))
    | trap n => exact commits_writes (entryEffect_invEffect _ _ s)
    | rte => exact commits_privileged (commits_writes (returnEffect_invEffect s))
    | _ => cases hc

/-- Every control transfer of an instruction but RTE sets the pc to a word boundary (R55). -/
theorem action_pc_aligned {i : Instr} (h : i ≠ .rte) (pos : Position) (s : State) :
    (action pos i s).Commits (fun e => ∀ v, e.pc = some v → v.toNat % 4 = 0) := by
  cases hc : controlWriter i with
  | false => exact fun e he => (action_dataEffect hc pos s e he).pc
  | true =>
    cases i with
    | mvtc src cr => exact commits_privileged (fun e he => by simp [(writeControl_invEffect cr _ s e he).1])
    | setpsw imm8 => exact commits_privileged (commits_checkedPm (commits_writes (by simp)))
    | clrpsw imm8 => exact commits_privileged (commits_writes (by simp))
    | trap n => exact commits_writes (fun _ hv => Option.some.inj hv ▸ vectorAddress_mod_four s (.trap n))
    | rte => exact absurd rfl h
    | _ => cases hc

/-- An instruction that is no listed writer of C writes neither the PSW nor C (R28). -/
theorem action_leaves_psw {i : Instr} (h : condWriter i = false) (pos : Position) (s : State) :
    (action pos i s).Commits (fun e => e.psw = none ∧ e.cond = none) := by
  intro e he
  have hdata := action_dataEffect (controlWriter_of_not_condWriter h) pos s e he
  exact ⟨hdata.psw, hdata.cond h⟩

/-! ### What a unit commits -/

/-- The effects that the unit of the instructions `is` can commit on `s`: that of its one instruction, that of an upper half that
cancels its partner (R251), or both halves' merged (R320). -/
inductive UnitEffect (s : State) : List Instr → Effect → Prop
  | single {i : Instr} {e : Effect} (h : action .alone i s = .writes e) : UnitEffect s [i] e
  | cancelling {u l : Instr} {e : Effect} (h : action .pair u s = .writes e) : UnitEffect s [u, l] e
  | merged {u l : Instr} {eu el : Effect} (hu : action .pair u s = .writes eu) (hl : action .pair l s = .writes el) :
      UnitEffect s [u, l] (mergeEffects s.draws eu el)

/-- What every instruction's effects satisfy and merging keeps, a unit's effects satisfy. -/
theorem UnitEffect.satisfies {P : Effect → Prop} {s : State} {is : List Instr} {e : Effect} (h : UnitEffect s is e)
    (haction : ∀ i ∈ is, ∀ pos, (action pos i s).Commits P)
    (hmerge : ∀ n eu el, P eu → P el → P (mergeEffects n eu el)) : P e := by
  cases h with
  | single h => exact haction _ (by simp) _ _ h
  | cancelling h => exact haction _ (by simp) _ _ h
  | merged hu hl => exact hmerge _ _ _ (haction _ (by simp) _ _ hu) (haction _ (by simp) _ _ hl)

theorem instrLength_even (i : Instr) : (instrLength i).getLsbD 0 = false := by
  unfold instrLength
  split <;> rfl

/-- A unit that answers a next state entered EIT, or committed an effect of its instructions and went on by an even length where
that effect sets no pc. -/
def UnitNext (is : List Instr) (len : Word) (s t : State) : Prop :=
  (∃ ev ret, t = enterEIT ev ret s) ∨ ∃ e, UnitEffect s is e ∧ len.getLsbD 0 = false ∧ t = commit e (s.pc + len) s

theorem exec_unitNext {i : Instr} {s t : State} (h : exec i s = .next t) : UnitNext [i] (instrLength i) s t := by
  rcases exec_eq_next h with ⟨e, he, ht⟩ | ⟨ev, -, ht⟩
  · exact .inr ⟨e, .single he, instrLength_even i, ht⟩
  · exact .inl ⟨ev, _, ht⟩

theorem execPair_unitNext {u l : Instr} {s t : State} (h : execPair u l s = .next t) : UnitNext [u, l] 4 s t := by
  rcases execPair_eq_next h with ⟨eu, hu, -, ht⟩ | ⟨eu, el, hu, -, hl, ht⟩ | ⟨ev, -, ht⟩
  · exact .inr ⟨eu, .cancelling hu, rfl, ht⟩
  · exact .inr ⟨_, .merged hu hl, rfl, ht⟩
  · exact .inl ⟨ev, _, ht⟩

theorem execUnit_unitNext {f : Fetched} {s t : State} (h : execUnit f s = .next t) :
    UnitNext (unitInstrs f) (unitLength f) s t := by
  cases f with
  | single i => exact exec_unitNext h
  | pair u l => exact execPair_unitNext h
  | reserved len => exact .inl ⟨.rie, _, (Host.Outcome.next.inj h).symm⟩
  | unassigned | badPair | badEntry => cases h

theorem step_unitNext {s t : State} (hreset : s.resetRequest = false) (h : step s = .next t) :
    UnitNext (unitInstrs (fetchUnit s)) (unitLength (fetchUnit s)) s t := by
  rcases step_eq_next h with ⟨hr, -⟩ | ⟨-, ev, -, ht⟩ | ⟨-, -, ev, -, ht⟩ | ⟨-, hunit⟩
  · simp [hreset] at hr
  · exact .inl ⟨ev, _, ht⟩
  · exact .inl ⟨ev, _, ht⟩
  · exact execUnit_unitNext hunit

/-- What a step other than a reset, a single instruction or a pair can do. -/
theorem stepOf_unitNext {is : List Instr} {len : Word} {s t : State} (h : StepOf is len s (.next t)) : UnitNext is len s t := by
  rcases h with ⟨hreset, hstep, rfl, rfl⟩ | ⟨u, l, -, hpair, rfl, rfl⟩ | ⟨i, hexec, rfl, rfl⟩
  · exact step_unitNext hreset hstep.symm
  · exact execPair_unitNext hpair.symm
  · exact exec_unitNext hexec.symm

/-! ### The invariant -/

theorem commit_inv {e : Effect} {next : Word} {s : State} (hs : Inv s) (he : InvEffect e) (hnext : next.getLsbD 0 = false) :
    Inv (commit e next s) where
  pc := by
    cases hpc : e.pc with
    | none => simpa [hpc] using hnext
    | some v => simpa [hpc] using he.pc v hpc
  bpc := by
    cases hbpc : e.bpc with
    | none => simpa [hbpc] using hs.bpc
    | some v => simpa [hbpc] using he.bpc v hbpc
  psw := by
    have whole : e.psw.getD s.psw &&& ~~~pswMask = 0 := by
      cases hpsw : e.psw with
      | none => exact hs.psw
      | some v => exact he.psw v hpsw
    rw [commit_psw, commitPsw]
    split
    · exact withCond_reserved whole _
    · exact whole
  evb := by
    rw [commit_evb]
    cases hevb : e.evb with
    | none => exact hs.evb
    | some v => exact he.evb v hevb
  mem := commitMem_wf s.mem e.store hs.mem
  written := by
    rw [commit_written]
    cases e.store with
    | none => exact hs.written
    | some st => exact noteWritten_rising _ _ _ hs.written

/-- EIT entry sets the pc, so its continuation in order does not matter. -/
theorem enterEIT_inv {s : State} (hs : Inv s) (ev : Event) (ret : Word) : Inv (enterEIT ev ret s) :=
  commit_inv (next := 0) hs (entryEffect_invEffect ev ret s) rfl

theorem takeReset_inv {s : State} (hs : Inv s) : Inv (takeReset s) where
  pc := by simp
  bpc := and_not_one_even _
  psw := resetPsw_reserved s.draws
  evb := by simp
  mem := by simpa using hs.mem
  written := by simp [risingFrom]

theorem UnitNext.inv {is : List Instr} {len : Word} {s t : State} (h : UnitNext is len s t) (hs : Inv s) : Inv t := by
  rcases h with ⟨ev, ret, rfl⟩ | ⟨e, he, hlen, rfl⟩
  · exact enterEIT_inv hs ev ret
  · have heffect : InvEffect e :=
      he.satisfies (fun i _ pos => action_invEffect hs pos i) (fun n _ _ => mergeEffects_invEffect n)
    exact commit_inv hs heffect (add_even hs.pc hlen)

/-- Settles O7: a reset writes the values it must, any other step enters EIT or commits effects that keep the invariant. -/
theorem stepKeepsInvariant : Obligations.StepKeepsInvariant := by
  intro s t hs h
  cases hreset : s.resetRequest with
  | false => exact (step_unitNext hreset h).inv hs
  | true =>
    have ht : takeReset s = t := by simpa [step, hreset] using h
    exact ht ▸ takeReset_inv hs

/-- Settles O8: every field is at the value the invariant asks for. -/
theorem resetMeetsInvariant : Obligations.ResetMeetsInvariant where
  pc := rfl
  bpc := rfl
  psw := rfl
  evb := rfl
  mem := reset_mem_wf
  written := rfl

/-! ### Transfers and the condition bit -/

/-- Settles O34: EIT entry goes to a vector entry, and the pc of a unit's effect, where there is one, is an instruction's. -/
theorem transferTargetsAreAligned : Obligations.TransferTargetsAreAligned := by
  intro is len s t h hrte
  rcases stepOf_unitNext h with ⟨ev, ret, rfl⟩ | ⟨e, he, -, rfl⟩
  · exact .inr (vectorAddress_mod_four s ev)
  · have haligned : ∀ v, e.pc = some v → v.toNat % 4 = 0 :=
      he.satisfies (fun i hi pos => action_pc_aligned (fun hir => hrte (hir ▸ hi)) pos s)
        (fun _ _ _ => forall_or_eq_some)
    cases hpc : e.pc with
    | none => exact .inl (by simp [hpc])
    | some v => exact .inr (by simpa [hpc] using haligned v hpc)

/-- Settles O40: what no instruction of the unit writes, the unit does not write. -/
theorem onlyListedInstructionsWriteC : Obligations.OnlyListedInstructionsWriteC := by
  intro is len s t h hwriter
  rcases stepOf_unitNext h with hentry | ⟨e, he, -, rfl⟩
  · exact .inr hentry
  · obtain ⟨hpsw, hcond⟩ : e.psw = none ∧ e.cond = none :=
      he.satisfies (fun i hi pos => action_leaves_psw (hwriter i hi) pos s)
        (fun _ _ _ hu hl => by simp [mergeEffects, hu, hl])
    exact .inl (by simp [commitPsw, hpsw, hcond])

/-! ### What R15 names -/

theorem slotOf_r15 (s : State) : slotOf s 15 = if psw_sm s.psw then .spu else .spi := rfl

theorem slotOf_r15_interrupt {s : State} (h : psw_sm s.psw = false) : slotOf s 15 = .spi := by
  rw [slotOf_r15, h]
  rfl

theorem slotOf_r15_user {s : State} (h : psw_sm s.psw = true) : slotOf s 15 = .spu := by
  rw [slotOf_r15, h]
  rfl

/-- Settles O9: both states have the stated values field by field; of the PSW a reset leaves only backup bits open. -/
theorem resetValues : Obligations.ResetValues := by
  refine ⟨⟨rfl, rfl, rfl, rfl, rfl⟩, fun s hreset => ⟨takeReset s, by simp [step, hreset], ?_⟩⟩
  have hslot : slotOf (takeReset s) 15 = .spi := slotOf_r15_interrupt (resetPsw_sm s.draws)
  exact ⟨takeReset_pc s, resetPsw_stated s.draws, takeReset_evb s, takeReset_evbWritten s, hslot, and_not_one_even _,
    takeReset_mem s, takeReset_platform s, takeReset_eiPending s, takeReset_cpiPending s, takeReset_copDisabled s,
    takeReset_resetRequest s⟩

theorem exec_mv_of_slot {s : State} {d : RegNum} {sl : Slot} (h : slotOf s d = sl) (r : RegNum) :
    exec (.mv d r) s = .next (commit { regs := [(sl, readReg s r)] } (s.pc + 2) s) := by
  subst h
  rfl

/-- A commit that keeps the PSW keeps what the register numbers name, so the register written is the one read. -/
theorem readReg_commit_slotOf (s : State) (d : RegNum) (v next : Word) :
    readReg (commit { regs := [(slotOf s d, v)] } next s) d = v := by
  have hslot : slotOf (commit { regs := [(slotOf s d, v)] } next s) d = slotOf s d := slotOf_of_psw_eq rfl d
  simp [readReg, hslot]

/-- Settles O10: reading and writing R15 go through the storage that SM selects. -/
theorem stackPointerBank : Obligations.StackPointerBank := by
  intro s d r
  refine ⟨fun hsm => ?_, fun hsm => ?_, _, exec_mv_of_slot rfl 15, ?_⟩
  · have hslot : slotOf s 15 = .spi := slotOf_r15_interrupt hsm
    exact ⟨⟨_, exec_mv_of_slot hslot r, rfl, rfl, rfl⟩, congrArg (readSlot s) hslot⟩
  · have hslot : slotOf s 15 = .spu := slotOf_r15_user hsm
    exact ⟨⟨_, exec_mv_of_slot hslot r, rfl, rfl, rfl⟩, congrArg (readSlot s) hslot⟩
  · rw [readReg_commit_slotOf, readReg, slotOf_r15]
    cases psw_sm s.psw <;> rfl

end Sys2Proof.Machine
end

section
/-! The memory (`20_memory.md`): what loads, stores, BSET and BCLR read and write, in memory and on a device, and what turns an
access away before it is made. An access that is let through is the commit of one effect, and that effect's footprint is its
frame. -/

namespace Sys2Proof.Machine

/-! ### Bytes of a halfword and of a word -/

theorem toNat_readHalf (m : Memory) (a : Word) :
    (readHalf m a).toNat = (readByte m a).toNat * 2 ^ 8 + (readByte m (a + 1)).toNat := by
  rw [readHalf, BitVec.toNat_append, Nat.shiftLeft_eq, mul_comm, Nat.two_pow_add_eq_or_of_lt (readByte m (a + 1)).isLt]

theorem toNat_readWord (m : Memory) (a : Word) :
    (readWord m a).toNat = (readHalf m a).toNat * 2 ^ 16 + (readHalf m (a + 2)).toNat := by
  rw [readWord, BitVec.toNat_append, Nat.shiftLeft_eq, mul_comm, Nat.two_pow_add_eq_or_of_lt (readHalf m (a + 2)).isLt]

theorem add_ofNat_succ (a : Word) (i : Nat) : a + BitVec.ofNat 32 (i + 1) = a + 1 + BitVec.ofNat 32 i := by
  bv_omega

theorem mem_byteRange {a b : Word} {n : Nat} : b ∈ byteRange a n ↔ ∃ i < n, b = a + BitVec.ofNat 32 i := by
  induction n generalizing a with
  | zero => simp [byteRange]
  | succ n ih =>
    simp only [byteRange, List.mem_cons, ih, Nat.exists_lt_succ_left, add_ofNat_succ, BitVec.add_zero]

/-- Every byte of a store is read back, as long as the store does not wrap onto its own first byte. -/
theorem readByte_writeBytes_getElem (bs : List Byte) (m : Memory) (a : Word) (h : Memory.wf m = true) (hlen : bs.length ≤ 2 ^ 32)
    (i : Nat) (hi : i < bs.length) : readByte (writeBytes m a bs) (a + BitVec.ofNat 32 i) = bs[i] := by
  induction bs generalizing m a i with
  | nil => cases hi
  | cons b bs ih =>
    simp only [List.length_cons] at hlen hi
    simp only [writeBytes]
    cases i with
    | zero =>
      have hfirst : a ∉ byteRange (a + 1) bs.length := by
        rw [mem_byteRange]
        rintro ⟨j, hj, ha⟩
        bv_omega
      rw [BitVec.add_zero, readByte_writeBytes_of_notMem _ _ _ _ hfirst, readByte_memSet_same m a b h, List.getElem_cons_zero]
    | succ j =>
      rw [add_ofNat_succ, ih _ _ (memSet_wf m a b h) (by omega) j (by omega), List.getElem_cons_succ]

/-- The `i`-th byte of a stored word, the most significant first. -/
theorem toNat_readByte_writeBytes_word {m : Memory} (h : Memory.wf m = true) (a v : Word) (i : Nat) (hi : i < 4) :
    (readByte (writeBytes m a (wordBytes v)) (a + BitVec.ofNat 32 i)).toNat = v.toNat / 2 ^ (24 - 8 * i) % 2 ^ 8 := by
  have bytes : ∀ (j : Nat) (hj : j < 4), (wordBytes v)[j] = v.extractLsb' (24 - 8 * j) 8
    | 0, _ | 1, _ | 2, _ | 3, _ => rfl
  rw [readByte_writeBytes_getElem (wordBytes v) m a h (by simp [wordBytes]) i hi, bytes i hi, BitVec.extractLsb'_toNat,
    Nat.shiftRight_eq_div_pow]

/-- The `i`-th byte of a stored halfword, the most significant first. -/
theorem toNat_readByte_writeBytes_half {m : Memory} (h : Memory.wf m = true) (a : Word) (v : Half) (i : Nat) (hi : i < 2) :
    (readByte (writeBytes m a (halfBytes v)) (a + BitVec.ofNat 32 i)).toNat = v.toNat / 2 ^ (8 - 8 * i) % 2 ^ 8 := by
  have bytes : ∀ (j : Nat) (hj : j < 2), (halfBytes v)[j] = v.extractLsb' (8 - 8 * j) 8
    | 0, _ | 1, _ => rfl
  rw [readByte_writeBytes_getElem (halfBytes v) m a h (by simp [halfBytes]) i hi, bytes i hi, BitVec.extractLsb'_toNat,
    Nat.shiftRight_eq_div_pow]

/-- Settles O21: a word is two halfwords and a halfword two bytes, and every byte stored is read back. -/
theorem bigEndianAccess : Obligations.BigEndianAccess := by
  intro m a v h hm
  have word := toNat_readByte_writeBytes_word hm a v
  have half := toNat_readByte_writeBytes_half hm a h
  refine ⟨?_, toNat_readHalf m a, ?_, ?_, ?_, ?_, ?_, ?_⟩
  · rw [toNat_readWord, toNat_readHalf, toNat_readHalf, show a + 2 + 1 = a + 3 by bv_omega]
    ring
  · have first := word 0 (by omega)
    rw [BitVec.add_zero] at first
    omega
  · exact word 1 (by omega)
  · exact word 2 (by omega)
  · have last := word 3 (by omega)
    simpa using last
  · have first := half 0 (by omega)
    rw [BitVec.add_zero] at first
    omega
  · have last := half 1 (by omega)
    simpa using last

/-! ### One effect, run -/

theorem RunsTo.imp {len : Word} {f : Footprint} {s : State} {o : Result} {p q : State → Prop} (h : RunsTo len f s o p)
    (hpq : ∀ t, p t → q t) : RunsTo len f s o q := by
  obtain ⟨t, ho, hpc, hframe, ht⟩ := h
  exact ⟨t, ho, hpc, hframe, hpq t ht⟩

/-- An effect that sets no pc runs on in order, within its own footprint. -/
theorem runsTo_finish_writes {len : Word} {e : Effect} {s : State} {post : State → Prop} (hpc : e.pc = none)
    (hpost : post (commit e (s.pc + len) s)) : RunsTo len (effectFootprint e) s (finish len (.writes e) s) post :=
  ⟨_, rfl, by simp [hpc], frame_commit e _ s, hpost⟩

/-- An effect that leaves the PSW leaves what the register numbers name. -/
theorem readReg_commit {e : Effect} (hpsw : e.psw = none) (hcond : e.cond = none) (next : Word) (s : State) (r : RegNum) :
    readReg (commit e next s) r = readSlot (commitRegs s e.regs) (slotOf s r) := by
  have hkeeps : (commit e next s).psw = s.psw := by simp [commitPsw, hpsw, hcond]
  rw [readReg, slotOf_of_psw_eq hkeeps, readSlot_commit]

theorem slotOf_injective (s : State) : Function.Injective (slotOf s) := by
  intro d r h
  apply BitVec.eq_of_toNat_eq
  by_cases hd : d.toNat < 15 <;> by_cases hr : r.toNat < 15
  · simpa [slotOf, hd, hr] using h
  · cases hsm : psw_sm s.psw <;> simp [slotOf, hd, hr, hsm] at h
  · cases hsm : psw_sm s.psw <;> simp [slotOf, hd, hr, hsm] at h
  · omega

/-- EIT entry by an event that an instruction or a fetch raises. -/
theorem enters_finish_raises (ev : Event) (len : Word) (s : State) : Enters ev len s (finish len (.raises ev) s) :=
  ⟨_, rfl, frame_enterEIT ev _ s, rfl, rfl, rfl⟩

/-! ### One read, from memory or from a device -/

section
variable (a : Word) (n : Nat) (s : State) (e : Effect)

@[simp] theorem withRead_regs : (withRead a n s e).regs = e.regs := by
  unfold withRead; split <;> rfl

@[simp] theorem withRead_psw : (withRead a n s e).psw = e.psw := by
  unfold withRead; split <;> rfl

@[simp] theorem withRead_cond : (withRead a n s e).cond = e.cond := by
  unfold withRead; split <;> rfl

@[simp] theorem withRead_lock : (withRead a n s e).lock = e.lock := by
  unfold withRead; split <;> rfl

@[simp] theorem withRead_store : (withRead a n s e).store = e.store := by
  unfold withRead; split <;> rfl

end

theorem dataRead_of_device {a : Word} {n : Nat} {s : State} (h : onDevice s.platform a n = true) {v : Word}
    (hv : v ∈ s.deviceAnswers.head?) : dataRead a n s = v &&& ((1#32 <<< (8 * n)) - 1) := by
  have hanswer : deviceAnswer s = v := by
    rw [deviceAnswer, List.headD_eq_head?_getD, Option.mem_def.mp hv, Option.getD_some]
  rw [dataRead, h, if_pos rfl, hanswer]

theorem Accessible.onDevice {k : Access} {n : Nat} {a : Word} {s : State} (h : Accessible k n a s) :
    onDevice s.platform a n = false := by
  obtain ⟨-, -, -, hmemory⟩ := h
  exact hmemory

theorem ReachesDevice.onDevice {k : Access} {n : Nat} {a : Word} {s : State} (h : ReachesDevice k n a s) :
    onDevice s.platform a n = true := by
  obtain ⟨-, -, -, hissued⟩ := h
  exact hissued

/-- A read that reaches memory: only what the effect names is written. -/
theorem runsTo_read_memory {len a : Word} {n : Nat} {s : State} {e : Effect} {post : State → Prop} (h : Accessible .load n a s)
    (hpc : e.pc = none) (hpost : post (commit (withRead a n s e) (s.pc + len) s)) :
    RunsTo len (effectFootprint e) s (finish len (checked .load n a s (.writes (withRead a n s e))) s) post := by
  rw [checked_of_accessible h]
  rw [withRead_of_memory h.onDevice] at hpost ⊢
  exact runsTo_finish_writes hpc hpost

/-- A read that reaches a device is issued once (R85). -/
theorem readsDevice_read {len a : Word} {n : Nat} {s : State} {e : Effect} {post : State → Prop} (h : ReachesDevice .load n a s)
    (hpc : e.pc = none) (hdevice : e.device = []) (hdraws : e.draws = false)
    (hpost : post (commit (withRead a n s e) (s.pc + len) s)) :
    ReadsDevice len (effectFootprint e) n a s (finish len (checked .load n a s (.writes (withRead a n s e))) s) post := by
  rw [checked_of_reachesDevice h]
  rw [withRead_of_device h.onDevice] at hpost ⊢
  refine ⟨_, rfl, by simp [hpc], ?_, by simp [hdevice], by simp, hpost⟩
  simpa [effectFootprint, hdevice, hdraws] using frame_commit { e with
    device := e.device ++ [.read a n], deviceReads := 1, draws := e.draws || s.deviceAnswers.isEmpty } (s.pc + len) s

theorem loadAction_writesReg {len : Word} {n : Nat} {a : Word} {s : State} (h : Accessible .load n a s) (d : RegNum)
    {ext : Word → Word} {v : Word} (hv : ext (memRead s.mem a n) = v) :
    WritesReg len s (finish len (loadAction n a d ext s) s) d v := by
  refine runsTo_read_memory h rfl ?_
  rw [readReg_commit (withRead_psw _ _ _ _) (withRead_cond _ _ _ _), withRead_regs, setReg_regs, commitRegs_cons, commitRegs_nil,
    readSlot_writeSlot_same, dataRead_of_memory h.onDevice, hv]

theorem loadAction_readsDevice {len : Word} {n : Nat} {a : Word} {s : State} (h : ReachesDevice .load n a s) (d : RegNum)
    {ext ext' : Word → Word} (hext : ∀ v, ext (v &&& ((1#32 <<< (8 * n)) - 1)) = ext' v) :
    ReadsDevice len { slots := [slotOf s d] } n a s (finish len (loadAction n a d ext s) s)
      (fun t => ∀ v ∈ s.deviceAnswers.head?, readReg t d = ext' v) := by
  refine readsDevice_read h rfl rfl rfl (fun v hv => ?_)
  rw [readReg_commit (withRead_psw _ _ _ _) (withRead_cond _ _ _ _), withRead_regs, setReg_regs, commitRegs_cons, commitRegs_nil,
    readSlot_writeSlot_same, dataRead_of_device h.onDevice hv, hext]

/-! ### What a loaded datum becomes -/

theorem extByte_memRead (m : Memory) (a : Word) : extByte (memRead m a 1) = BitVec.ofInt 32 (readByte m a).toInt := by
  rw [memRead_one, extByte, BitVec.extractLsb'_setWidth_of_le (by omega), BitVec.extractLsb'_eq_self]
  rfl

theorem extHalf_memRead (m : Memory) (a : Word) : extHalf (memRead m a 2) = BitVec.ofInt 32 (readHalf m a).toInt := by
  rw [memRead_two, extHalf, BitVec.extractLsb'_setWidth_of_le (by omega), BitVec.extractLsb'_eq_self]
  rfl

theorem memRead_one_eq_ofNat (m : Memory) (a : Word) : memRead m a 1 = BitVec.ofNat 32 (readByte m a).toNat :=
  (BitVec.ofNat_toNat 32 _).symm

theorem memRead_two_eq_ofNat (m : Memory) (a : Word) : memRead m a 2 = BitVec.ofNat 32 (readHalf m a).toNat :=
  (BitVec.ofNat_toNat 32 _).symm

/-- A mask that keeps the `n` low bits keeps the low part. -/
theorem extractLsb'_and_mask {n : Nat} (hn : n ≤ 32) {mask : Word} (hmask : mask.setWidth n = BitVec.allOnes n) (v : Word) :
    (v &&& mask).extractLsb' 0 n = v.setWidth n := by
  rw [← BitVec.setWidth_eq_extractLsb' hn, BitVec.setWidth_and, hmask, BitVec.and_allOnes]

/-- The low bytes of a device's answer, sign-extended as a byte. -/
theorem extByte_answer (v : Word) : extByte (v &&& ((1#32 <<< (8 * 1)) - 1)) = (v.setWidth 8).signExtend 32 :=
  congrArg sext (extractLsb'_and_mask (by omega) rfl v)

/-- The low bytes of a device's answer, sign-extended as a halfword. -/
theorem extHalf_answer (v : Word) : extHalf (v &&& ((1#32 <<< (8 * 2)) - 1)) = (v.setWidth 16).signExtend 32 :=
  congrArg sext (extractLsb'_and_mask (by omega) rfl v)

/-- A word access takes the whole answer. -/
theorem word_answer (v : Word) : v &&& ((1#32 <<< (8 * 4)) - 1) = v :=
  BitVec.and_allOnes

theorem dataRead_word_of_device {a : Word} {s : State} (h : onDevice s.platform a 4 = true) {v : Word}
    (hv : v ∈ s.deviceAnswers.head?) : dataRead a 4 s = v :=
  (dataRead_of_device h hv).trans (word_answer v)

/-! ### The loads -/

/-- What `LD Rdest,@Rsrc+` writes beside its access (R141). -/
def ldPostEffect (d r : RegNum) (s : State) : Effect :=
  { regs := [(slotOf s d, dataRead (readReg s r) 4 s), (slotOf s r, readReg s r + 4)] }

/-- What LOCK writes beside its access (R146). -/
def lockEffect (d r : RegNum) (s : State) : Effect :=
  { regs := [(slotOf s d, dataRead (readReg s r) 4 s)], lock := some true }

theorem exec_ldPost_of_ne {d r : RegNum} (h : d ≠ r) (s : State) :
    exec (.ldPost d r) s
      = finish 2 (checked .load 4 (readReg s r) s (.writes (withRead (readReg s r) 4 s (ldPostEffect d r s)))) s :=
  congrArg (finish 2 · s) (if_neg h)

theorem exec_ldPost_same (r : RegNum) (s : State) : exec (.ldPost r r) s = .refused .sameRegisterUpdate :=
  congrArg (finish 2 · s) (if_pos rfl)

theorem exec_lock (d r : RegNum) (s : State) :
    exec (.lock d r) s
      = finish 2 (checked .load 4 (readReg s r) s (.writes (withRead (readReg s r) 4 s (lockEffect d r s)))) s :=
  rfl

theorem readReg_ldPostEffect {d r : RegNum} (h : d ≠ r) (s : State) (next : Word) :
    readReg (commit (withRead (readReg s r) 4 s (ldPostEffect d r s)) next s) d = dataRead (readReg s r) 4 s
      ∧ readReg (commit (withRead (readReg s r) 4 s (ldPostEffect d r s)) next s) r = readReg s r + 4 := by
  have hslots : slotOf s d ≠ slotOf s r := fun he => h (slotOf_injective s he)
  simp [readReg_commit, ldPostEffect, hslots]

theorem readReg_lockEffect (d r : RegNum) (s : State) (next : Word) :
    readReg (commit (withRead (readReg s r) 4 s (lockEffect d r s)) next s) d = dataRead (readReg s r) 4 s := by
  simp [readReg_commit, lockEffect]

theorem lock_lockEffect (d r : RegNum) (s : State) (next : Word) :
    (commit (withRead (readReg s r) 4 s (lockEffect d r s)) next s).lock = true := by
  simp [lockEffect]

/-- Settles O22: every load is one checked read and the commit of its effect, in memory and on a device alike; what differs is the
datum. -/
theorem loadResults : Obligations.LoadResults := by
  intro s d r disp16
  refine ⟨fun h => loadAction_writesReg h d (ext := id) rfl, fun h => loadAction_writesReg h d (ext := id) rfl,
    fun h => ⟨loadAction_writesReg h d (extByte_memRead _ _), loadAction_writesReg h d (ext := id) (memRead_one_eq_ofNat _ _)⟩,
    fun h => ⟨loadAction_writesReg h d (extByte_memRead _ _), loadAction_writesReg h d (ext := id) (memRead_one_eq_ofNat _ _)⟩,
    fun h => ⟨loadAction_writesReg h d (extHalf_memRead _ _), loadAction_writesReg h d (ext := id) (memRead_two_eq_ofNat _ _)⟩,
    fun h => ⟨loadAction_writesReg h d (extHalf_memRead _ _), loadAction_writesReg h d (ext := id) (memRead_two_eq_ofNat _ _)⟩,
    fun h => ?lock, fun hne h => ?post, fun heq => ?same, ?device, fun h => ?lockDevice, fun hne h => ?postDevice⟩
  case lock =>
    have hread := dataRead_of_memory h.onDevice
    exact runsTo_read_memory (e := lockEffect d r s) h rfl ⟨(readReg_lockEffect d r s _).trans hread, lock_lockEffect d r s _⟩
  case post =>
    obtain ⟨hdata, haddr⟩ := readReg_ldPostEffect hne s (s.pc + 2)
    rw [exec_ldPost_of_ne hne]
    exact runsTo_read_memory h rfl ⟨hdata.trans (dataRead_of_memory h.onDevice), haddr⟩
  case same => exact heq ▸ exec_ldPost_same d s
  case device =>
    intro i len n a ext hi h
    simp only [List.mem_cons, List.not_mem_nil, or_false, Prod.mk.injEq] at hi
    obtain ⟨rfl, rfl, rfl, rfl, rfl⟩ | ⟨rfl, rfl, rfl, rfl, rfl⟩ | ⟨rfl, rfl, rfl, rfl, rfl⟩ | ⟨rfl, rfl, rfl, rfl, rfl⟩
      | ⟨rfl, rfl, rfl, rfl, rfl⟩ | ⟨rfl, rfl, rfl, rfl, rfl⟩ | ⟨rfl, rfl, rfl, rfl, rfl⟩ | ⟨rfl, rfl, rfl, rfl, rfl⟩
      | ⟨rfl, rfl, rfl, rfl, rfl⟩ | ⟨rfl, rfl, rfl, rfl, rfl⟩ := hi
    · exact loadAction_readsDevice h d (ext := id) word_answer
    · exact loadAction_readsDevice h d (ext := id) word_answer
    · exact loadAction_readsDevice h d extByte_answer
    · exact loadAction_readsDevice h d extByte_answer
    · exact loadAction_readsDevice h d (ext := id) fun _ => rfl
    · exact loadAction_readsDevice h d (ext := id) fun _ => rfl
    · exact loadAction_readsDevice h d extHalf_answer
    · exact loadAction_readsDevice h d extHalf_answer
    · exact loadAction_readsDevice h d (ext := id) fun _ => rfl
    · exact loadAction_readsDevice h d (ext := id) fun _ => rfl
  case lockDevice =>
    exact readsDevice_read (e := lockEffect d r s) h rfl rfl rfl ⟨lock_lockEffect d r s _, fun v hv =>
      (readReg_lockEffect d r s _).trans (dataRead_word_of_device h.onDevice hv)⟩
  case postDevice =>
    obtain ⟨hdata, haddr⟩ := readReg_ldPostEffect hne s (s.pc + 2)
    rw [exec_ldPost_of_ne hne]
    exact readsDevice_read h rfl rfl rfl ⟨haddr, fun v hv => hdata.trans (dataRead_word_of_device h.onDevice hv)⟩

/-! ### One write, to memory or to a device -/

section
variable (a : Word) (bytes : List Byte) (s : State) (e : Effect)

@[simp] theorem withWrite_regs : (withWrite a bytes s e).regs = e.regs := by
  unfold withWrite; split <;> rfl

@[simp] theorem withWrite_psw : (withWrite a bytes s e).psw = e.psw := by
  unfold withWrite; split <;> rfl

@[simp] theorem withWrite_cond : (withWrite a bytes s e).cond = e.cond := by
  unfold withWrite; split <;> rfl

@[simp] theorem withWrite_lock : (withWrite a bytes s e).lock = e.lock := by
  unfold withWrite; split <;> rfl

end

/-- Memory after a commit of one write that reaches memory. -/
theorem commit_withWrite_mem {a : Word} {bytes : List Byte} {s : State} (h : onDevice s.platform a bytes.length = false)
    (e : Effect) (next : Word) : (commit (withWrite a bytes s e) next s).mem = writeBytes s.mem a bytes := by
  simp [h, commitMem]

/-- A write that reaches memory: the bytes of its range, and what else the effect names. -/
theorem runsTo_write_memory {len a : Word} {bytes : List Byte} {s : State} {e : Effect} {post : State → Prop}
    (h : Accessible .store bytes.length a s) (hpc : e.pc = none) (hpost : post (commit (withWrite a bytes s e) (s.pc + len) s)) :
    RunsTo len { effectFootprint e with bytes := byteRange a bytes.length } s
      (finish len (checked .store bytes.length a s (.writes (withWrite a bytes s e))) s) post := by
  rw [checked_of_accessible h]
  rw [withWrite_of_memory h.onDevice] at hpost ⊢
  exact runsTo_finish_writes (e := { e with store := some { addr := a, bytes := bytes } }) hpc hpost

/-- A write that reaches a device is issued once (R85). -/
theorem writesDevice_write {len a : Word} {bytes : List Byte} {s : State} {e : Effect} {post : State → Prop}
    (h : ReachesDevice .store bytes.length a s) (hpc : e.pc = none) (hdevice : e.device = []) (hreads : e.deviceReads = 0)
    (hpost : post (commit (withWrite a bytes s e) (s.pc + len) s)) :
    WritesDevice len (effectFootprint e) a bytes s
      (finish len (checked .store bytes.length a s (.writes (withWrite a bytes s e))) s) post := by
  rw [checked_of_reachesDevice h]
  rw [withWrite_of_device h.onDevice] at hpost ⊢
  refine ⟨_, rfl, by simp [hpc], ?_, by simp [hdevice], by simp [hreads], hpost⟩
  simpa [effectFootprint, hdevice] using frame_commit { e with device := e.device ++ [.write a bytes] } (s.pc + len) s

/-! ### The stores -/

/-- The registers of `t` are those of `s` with the updates `regs`. -/
def RegsUpdated (regs : List (Slot × Word)) (s t : State) : Prop :=
  ∀ r, readReg t r = readSlot (commitRegs s regs) (slotOf s r)

theorem regsUpdated_commit_withWrite (a : Word) (bytes : List Byte) (regs : List (Slot × Word)) (next : Word) (s : State) :
    RegsUpdated regs s (commit (withWrite a bytes s { regs := regs }) next s) := by
  intro r
  rw [readReg_commit (withWrite_psw _ _ _ _) (withWrite_cond _ _ _ _), withWrite_regs]

theorem RegsUpdated.readReg {s t : State} {p : RegNum} {w : Word} (h : RegsUpdated [(slotOf s p, w)] s t) :
    readReg t p = w := by
  rw [h p, commitRegs_cons, commitRegs_nil, readSlot_writeSlot_same]

/-- A store to memory, with the update of its address register: the bytes are in memory, the registers are those updated. -/
theorem storeAction_runsTo {len a : Word} {bytes : List Byte} {s : State} (h : Accessible .store bytes.length a s)
    (regs : List (Slot × Word)) :
    RunsTo len { slots := regs.map (·.1), bytes := byteRange a bytes.length } s (finish len (storeAction a bytes regs s) s)
      (fun t => RegsUpdated regs s t ∧ t.mem = writeBytes s.mem a bytes) :=
  runsTo_write_memory (e := { regs := regs }) h rfl
    ⟨regsUpdated_commit_withWrite a bytes regs _ s, commit_withWrite_mem h.onDevice _ _⟩

/-- A store to a device, with the update of its address register. -/
theorem storeAction_writesDevice {len a : Word} {bytes : List Byte} {s : State} (h : ReachesDevice .store bytes.length a s)
    (regs : List (Slot × Word)) :
    WritesDevice len { slots := regs.map (·.1) } a bytes s (finish len (storeAction a bytes regs s) s)
      (RegsUpdated regs s) :=
  writesDevice_write (e := { regs := regs }) h rfl rfl rfl (regsUpdated_commit_withWrite a bytes regs _ s)

/-- A word stored reads back. -/
theorem storeAction_readWord {len a : Word} {s : State} (hm : Memory.wf s.mem = true) (h : Accessible .store 4 a s) (v : Word)
    (regs : List (Slot × Word)) :
    RunsTo len { slots := regs.map (·.1), bytes := byteRange a 4 } s (finish len (storeAction a (wordBytes v) regs s) s)
      (fun t => RegsUpdated regs s t ∧ readWord t.mem a = v) :=
  (storeAction_runsTo (bytes := wordBytes v) h regs).imp
    fun _ ⟨hregs, hmem⟩ => ⟨hregs, hmem ▸ readWord_writeBytes_same s.mem a v hm⟩

/-- The low halfword of a register stored reads back. -/
theorem storeAction_readHalf {len a : Word} {s : State} (hm : Memory.wf s.mem = true) (h : Accessible .store 2 a s) (v : Word)
    (regs : List (Slot × Word)) :
    RunsTo len { slots := regs.map (·.1), bytes := byteRange a 2 } s
      (finish len (storeAction a (halfBytes (v.extractLsb' 0 16)) regs s) s)
      (fun t => RegsUpdated regs s t ∧ readHalf t.mem a = v.setWidth 16) :=
  (storeAction_runsTo (bytes := halfBytes (v.extractLsb' 0 16)) h regs).imp
    fun _ ⟨hregs, hmem⟩ => ⟨hregs, hmem ▸ readHalf_writeBytes_same s.mem a _ hm⟩

/-- The low byte of a register stored reads back. -/
theorem storeAction_readByte {len a : Word} {s : State} (hm : Memory.wf s.mem = true) (h : Accessible .store 1 a s) (v : Word)
    (regs : List (Slot × Word)) :
    RunsTo len { slots := regs.map (·.1), bytes := [a] } s (finish len (storeAction a [v.extractLsb' 0 8] regs s) s)
      (fun t => RegsUpdated regs s t ∧ readByte t.mem a = v.setWidth 8) :=
  (storeAction_runsTo (bytes := [v.extractLsb' 0 8]) h regs).imp
    fun _ ⟨hregs, hmem⟩ => ⟨hregs, hmem ▸ readByte_writeBytes_one s.mem a _ hm⟩

theorem exec_unlock_of_locked {s : State} (h : s.lock = true) (v p : RegNum) :
    exec (.unlock v p) s = finish 2 (checked .store 4 (readReg s p) s
      (.writes (withWrite (readReg s p) (wordBytes (readReg s v)) s { lock := some false }))) s :=
  congrArg (finish 2 · s) (if_pos h)

/-- With the LOCK bit 0, UNLOCK looks at no address (R150, D31). -/
theorem exec_unlock_of_unlocked {s : State} (h : s.lock = false) (v p : RegNum) :
    exec (.unlock v p) s = finish 2 (.writes { lock := some false }) s :=
  congrArg (finish 2 · s) (if_neg (by simp [h]))

/-- Settles O23: every store without update is one checked write and the commit of its effect, in memory and on a device alike. -/
theorem storeResults : Obligations.StoreResults := by
  intro s v p disp16 hm
  refine ⟨fun h => (storeAction_readWord hm h _ []).imp fun _ => And.right,
    fun h => (storeAction_readWord hm h _ []).imp fun _ => And.right,
    fun h => (storeAction_readByte hm h _ []).imp fun _ => And.right,
    fun h => (storeAction_readByte hm h _ []).imp fun _ => And.right,
    fun h => (storeAction_readHalf hm h _ []).imp fun _ => And.right,
    fun h => (storeAction_readHalf hm h _ []).imp fun _ => And.right,
    fun hlock h => ?unlock, fun hlock => ?unlocked, ?device, fun hlock h => ?unlockDevice⟩
  case unlock =>
    rw [exec_unlock_of_locked hlock]
    refine runsTo_write_memory (bytes := wordBytes (readReg s v)) h rfl ⟨by simp, ?_⟩
    rw [commit_withWrite_mem h.onDevice]
    exact readWord_writeBytes_same s.mem _ _ hm
  case unlocked =>
    rw [exec_unlock_of_unlocked hlock]
    exact runsTo_finish_writes rfl rfl
  case device =>
    intro i len a bytes hi h
    simp only [List.mem_cons, List.not_mem_nil, or_false, Prod.mk.injEq] at hi
    obtain ⟨rfl, rfl, rfl, rfl⟩ | ⟨rfl, rfl, rfl, rfl⟩ | ⟨rfl, rfl, rfl, rfl⟩ | ⟨rfl, rfl, rfl, rfl⟩ | ⟨rfl, rfl, rfl, rfl⟩
      | ⟨rfl, rfl, rfl, rfl⟩ := hi
    all_goals exact RunsTo.imp (storeAction_writesDevice h []) fun _ ⟨hissued, hanswers, _⟩ => ⟨hissued, hanswers, trivial⟩
  case unlockDevice =>
    rw [exec_unlock_of_locked hlock]
    exact writesDevice_write (bytes := wordBytes (readReg s v)) h rfl rfl rfl (by simp)

/-! ### The stores with update -/

theorem exec_stPreInc_of_ne {v p : RegNum} (h : v ≠ p) (s : State) :
    exec (.stPreInc v p) s
      = finish 2 (storeAction (readReg s p + 4) (wordBytes (readReg s v)) [(slotOf s p, readReg s p + 4)] s) s :=
  congrArg (finish 2 · s) (if_neg h)

theorem exec_stPreDec_of_ne {v p : RegNum} (h : v ≠ p) (s : State) :
    exec (.stPreDec v p) s
      = finish 2 (storeAction (readReg s p - 4) (wordBytes (readReg s v)) [(slotOf s p, readReg s p - 4)] s) s :=
  congrArg (finish 2 · s) (if_neg h)

theorem exec_stPreInc_same (p : RegNum) (s : State) : exec (.stPreInc p p) s = .refused .sameRegisterUpdate :=
  congrArg (finish 2 · s) (if_pos rfl)

theorem exec_stPreDec_same (p : RegNum) (s : State) : exec (.stPreDec p p) s = .refused .sameRegisterUpdate :=
  congrArg (finish 2 · s) (if_pos rfl)

theorem storeAction_update_writesDevice {len a : Word} {bytes : List Byte} {s : State} (h : ReachesDevice .store bytes.length a s)
    (p : RegNum) (w : Word) :
    WritesDevice len { slots := [slotOf s p] } a bytes s (finish len (storeAction a bytes [(slotOf s p, w)] s) s)
      (fun t => readReg t p = w) :=
  RunsTo.imp (storeAction_writesDevice h [(slotOf s p, w)])
    fun _ ⟨hissued, hanswers, hregs⟩ => ⟨hissued, hanswers, hregs.readReg⟩

/-- Settles O24: the stores of O23 with one register written beside. -/
theorem storeUpdateResults : Obligations.StoreUpdateResults := by
  intro s v p hm
  refine ⟨fun hne h => ?preInc, fun hne h => ?preDec, fun heq => ?same, fun h => ?byte, fun h => ?half, ?device⟩
  case preInc =>
    rw [exec_stPreInc_of_ne hne]
    exact (storeAction_readWord hm h _ _).imp fun _ ⟨hregs, hmem⟩ => ⟨hregs.readReg, hmem⟩
  case preDec =>
    rw [exec_stPreDec_of_ne hne]
    exact (storeAction_readWord hm h _ _).imp fun _ ⟨hregs, hmem⟩ => ⟨hregs.readReg, hmem⟩
  case same => exact heq ▸ ⟨exec_stPreInc_same v s, exec_stPreDec_same v s⟩
  case byte =>
    exact (storeAction_readByte hm h _ [(slotOf s p, readReg s p + 1)]).imp
      fun _ ⟨hregs, hmem⟩ => ⟨hregs.readReg, hmem⟩
  case half =>
    exact (storeAction_readHalf hm h _ [(slotOf s p, readReg s p + 2)]).imp
      fun _ ⟨hregs, hmem⟩ => ⟨hregs.readReg, hmem⟩
  case device =>
    intro i a new bytes hi h
    simp only [List.mem_cons, List.not_mem_nil, or_false, Prod.mk.injEq] at hi
    obtain (⟨rfl, rfl, rfl, rfl⟩ | ⟨rfl, rfl, rfl, rfl⟩) | ⟨hne, ⟨rfl, rfl, rfl, rfl⟩ | ⟨rfl, rfl, rfl, rfl⟩⟩ := hi
    · exact storeAction_update_writesDevice h p _
    · exact storeAction_update_writesDevice h p _
    · exact exec_stPreInc_of_ne hne s ▸ storeAction_update_writesDevice h p _
    · exact exec_stPreDec_of_ne hne s ▸ storeAction_update_writesDevice h p _

/-! ### Accesses turned away -/

/-- Executed alone, `i` of `len` bytes first of all makes the checks of an access of `n` bytes at `a`. -/
def ChecksAccess (i : Instr) (len : Word) (n : Nat) (a : Word) (s : State) : Prop :=
  ∃ k act, exec i s = finish len (checked k n a s act) s

theorem misaligned_half_iff (a : Word) : misaligned 2 a = true ↔ a.toNat % 2 ≠ 0 := by
  simp [misaligned, BitVec.getLsbD, Nat.testBit_zero]

theorem misaligned_word_iff (a : Word) : misaligned 4 a = true ↔ a.toNat % 4 ≠ 0 := by
  have hbits : misaligned 4 a = (a.getLsbD 0 || a.getLsbD 1) := rfl
  rw [hbits, ne_eq, mod_four_iff]
  cases a.getLsbD 0 <;> simp

/-- A misaligned access is AE with no effect (R74, R360). -/
theorem ChecksAccess.enters_ae {i : Instr} {len : Word} {n : Nat} {a : Word} {s : State} (h : ChecksAccess i len n a s)
    (ha : misaligned n a = true) : Enters .ae len s (exec i s) := by
  obtain ⟨k, act, hexec⟩ := h
  rw [hexec, checked_of_misaligned ha]
  exact enters_finish_raises .ae len s

/-- Settles O25: each of these instructions makes its access check first, and the check sees the two low bits of the address. -/
theorem misalignedRaisesAe : Obligations.MisalignedRaisesAe := by
  intro s v p disp16
  simp only [List.forall_mem_cons, List.not_mem_nil, false_imp_iff, implies_true, and_true]
  refine ⟨fun h => ?_, fun h => ?_, fun h hne => ?_, fun h hlock => ?_, fun h => ?_, fun h => ?_⟩
  · have ha := (misaligned_word_iff _).mpr h
    exact ⟨ChecksAccess.enters_ae ⟨.load, _, rfl⟩ ha, ChecksAccess.enters_ae ⟨.load, _, rfl⟩ ha,
      ChecksAccess.enters_ae ⟨.store, _, rfl⟩ ha⟩
  · have ha := (misaligned_word_iff _).mpr h
    exact ⟨ChecksAccess.enters_ae ⟨.load, _, rfl⟩ ha, ChecksAccess.enters_ae ⟨.store, _, rfl⟩ ha⟩
  · have ha := (misaligned_word_iff _).mpr h
    have hinc : misaligned 4 (readReg s p + 4) = true := (misaligned_word_iff _).mpr (by bv_omega)
    have hdec : misaligned 4 (readReg s p - 4) = true := (misaligned_word_iff _).mpr (by bv_omega)
    exact ⟨ChecksAccess.enters_ae ⟨.load, _, exec_ldPost_of_ne hne s⟩ ha,
      ChecksAccess.enters_ae ⟨.store, _, exec_stPreInc_of_ne hne s⟩ hinc,
      ChecksAccess.enters_ae ⟨.store, _, exec_stPreDec_of_ne hne s⟩ hdec⟩
  · exact ChecksAccess.enters_ae ⟨.store, _, exec_unlock_of_locked hlock v p⟩ ((misaligned_word_iff _).mpr h)
  · have ha := (misaligned_half_iff _).mpr h
    exact ⟨ChecksAccess.enters_ae ⟨.load, _, rfl⟩ ha, ChecksAccess.enters_ae ⟨.load, _, rfl⟩ ha,
      ChecksAccess.enters_ae ⟨.store, _, rfl⟩ ha, ChecksAccess.enters_ae ⟨.store, _, rfl⟩ ha⟩
  · have ha := (misaligned_half_iff _).mpr h
    exact ⟨ChecksAccess.enters_ae ⟨.load, _, rfl⟩ ha, ChecksAccess.enters_ae ⟨.load, _, rfl⟩ ha,
      ChecksAccess.enters_ae ⟨.store, _, rfl⟩ ha⟩

/-! ### User mode -/

theorem outsideAccess_of_outside {policy : OutsideAccess} {s : State} {a : Word} (huser : userMode s = true)
    (ha : a.getLsbD 31 = true) :
    (∀ ev, policy = .raises ev → outsideAccess policy s a = some (.raises ev))
      ∧ (policy = .refused → outsideAccess policy s a = some (.stops (.refuse (.userAccess a)))) := by
  have houtside : (userMode s && !inUserSpace a) = true := by simp [huser, inUserSpace, ha]
  unfold outsideAccess
  rw [if_pos houtside]
  exact ⟨fun ev hp => hp ▸ rfl, fun hp => hp ▸ rfl⟩

/-- An aligned access does what the platform's rule for user mode says before anything of it is made (R79). -/
theorem ChecksAccess.outside {i : Instr} {len : Word} {n : Nat} {a : Word} {s : State} (h : ChecksAccess i len n a s)
    (ha : misaligned n a = false) {out : Action} (hout : outsideAccess s.platform.userData s a = some out) :
    exec i s = finish len out s := by
  obtain ⟨k, act, hexec⟩ := h
  simp [hexec, checked, ha, hout]

theorem step_of_outside {s : State} (hreset : s.resetRequest = false) (hpend : pendingEvent s = none) {out : Action}
    (hout : outsideAccess s.platform.userFetch s (fetchAddress s) = some out) : step s = finish 0 out s := by
  simp [step, hreset, hpend, hout]

/-- The word fetched is the one that holds the pc (R310). -/
theorem fetchAddress_eq_wordFloor (s : State) : fetchAddress s = wordFloor s.pc := by
  have mask : ∀ i < 32, (0xFFFFFFFC : Word).getLsbD i = decide (2 ≤ i) := by decide
  apply BitVec.eq_of_getLsbD_eq
  intro i hi
  have hdiv : s.pc.toNat / 4 * 4 = s.pc.toNat >>> 2 <<< 2 := by
    rw [Nat.shiftRight_eq_div_pow, Nat.shiftLeft_eq]
  rw [fetchAddress, BitVec.getLsbD_and, mask i hi, wordFloor, hdiv, BitVec.getLsbD_ofNat, Nat.testBit_shiftLeft]
  by_cases h2 : 2 ≤ i
  · simp [hi, h2, Nat.testBit_shiftRight, BitVec.getLsbD, Nat.add_sub_cancel' h2]
  · simp [h2]

theorem fetchAddress_getLsbD_31 (s : State) : (fetchAddress s).getLsbD 31 = s.pc.getLsbD 31 := by
  simp [fetchAddress]

/-- Settles O38: PIE is checked before anything of these instructions, and the platform's rule before anything of an access or a
fetch. -/
theorem privilegedInUserMode : Obligations.PrivilegedInUserMode := by
  intro s r p cr imm8 huser
  refine ⟨?privileged, fun ha haligned => ?data, fun hpc hreset hpend => ?fetch⟩
  case privileged =>
    have hpie : ∀ act, Enters .pie 2 s (finish 2 (privileged s act) s) := by
      intro act
      rw [privileged_of_user huser]
      exact enters_finish_raises .pie 2 s
    simp only [List.forall_mem_cons, List.not_mem_nil, false_imp_iff, implies_true, and_true]
    exact ⟨hpie _, hpie _, hpie _, hpie _⟩
  case data =>
    have hword : misaligned 4 (readReg s p) = false := Bool.eq_false_iff.mpr (mt (misaligned_word_iff _).mp (by omega))
    have hhalf : misaligned 2 (readReg s p) = false := Bool.eq_false_iff.mpr (mt (misaligned_half_iff _).mp (by omega))
    have hbyte : misaligned 1 (readReg s p) = false := rfl
    obtain ⟨hraises, hrefused⟩ := outsideAccess_of_outside (policy := s.platform.userData) huser ha
    have haccess : ∀ {i n}, misaligned n (readReg s p) = false → ChecksAccess i 2 n (readReg s p) s →
        (∀ ev, s.platform.userData = .raises ev → Enters ev 2 s (exec i s))
          ∧ (s.platform.userData = .refused → exec i s = .refused (.userAccess (readReg s p))) :=
      fun hn h => ⟨fun ev hp => h.outside hn (hraises ev hp) ▸ enters_finish_raises ev 2 s,
        fun hp => h.outside hn (hrefused hp)⟩
    simp only [List.forall_mem_cons, List.not_mem_nil, false_imp_iff, implies_true, and_true]
    exact ⟨haccess hword ⟨.load, _, rfl⟩, haccess hword ⟨.load, _, rfl⟩, haccess hword ⟨.store, _, rfl⟩,
      haccess hbyte ⟨.load, _, rfl⟩, haccess hbyte ⟨.load, _, rfl⟩, haccess hhalf ⟨.load, _, rfl⟩,
      haccess hhalf ⟨.load, _, rfl⟩, haccess hbyte ⟨.store, _, rfl⟩, haccess hhalf ⟨.store, _, rfl⟩,
      haccess hbyte ⟨.store, _, rfl⟩, haccess hhalf ⟨.store, _, rfl⟩⟩
  case fetch =>
    obtain ⟨hraises, hrefused⟩ := outsideAccess_of_outside (policy := s.platform.userFetch) huser
      ((fetchAddress_getLsbD_31 s).trans hpc)
    exact ⟨fun ev hp => step_of_outside hreset hpend (hraises ev hp) ▸ enters_finish_raises ev 0 s,
      fun hp => fetchAddress_eq_wordFloor s ▸ step_of_outside hreset hpend (hrefused hp)⟩

/-! ### BSET and BCLR -/

/-- A byte of memory changed in place. -/
theorem modifyByte_runsTo {len ea : Word} {s : State} (hm : Memory.wf s.mem = true) (hload : Accessible .load 1 ea s)
    (hstore : Accessible .store 1 ea s) (f : Byte → Byte) :
    RunsTo len { bytes := [ea] } s (finish len (modifyByte ea f s) s)
      (fun t => readByte t.mem ea = f (readByte s.mem ea)) := by
  have hdatum : (dataRead ea 1 s).extractLsb' 0 8 = readByte s.mem ea := by
    rw [dataRead_of_memory hload.onDevice, memRead_one, BitVec.extractLsb'_setWidth_of_le (by omega), BitVec.extractLsb'_eq_self]
  rw [modifyByte, checked_of_accessible hload, withRead_of_memory hload.onDevice, hdatum]
  refine runsTo_write_memory (bytes := [f (readByte s.mem ea)]) hstore rfl ?_
  rw [commit_withWrite_mem hstore.onDevice]
  exact readByte_writeBytes_one s.mem ea _ hm

/-- A byte of a device changed: one read and one write, in this order (R84, R85). -/
theorem modifyByte_runsTo_of_device {len ea : Word} {s : State} (hload : ReachesDevice .load 1 ea s)
    (hstore : ReachesDevice .store 1 ea s) (f : Byte → Byte) :
    RunsTo len { device := true, draws := s.deviceAnswers.isEmpty } s (finish len (modifyByte ea f s) s)
      (fun t => t.deviceAnswers = s.deviceAnswers.drop 1
        ∧ t.deviceAccesses = s.deviceAccesses ++ [.read ea 1, .write ea [f ((dataRead ea 1 s).extractLsb' 0 8)]]) := by
  have hwrite : onDevice s.platform ea [f ((dataRead ea 1 s).extractLsb' 0 8)].length = true := hstore.onDevice
  rw [modifyByte, checked_of_reachesDevice hload, checked_of_reachesDevice hstore, withRead_of_device hload.onDevice,
    withWrite_of_device hwrite]
  exact runsTo_finish_writes rfl ⟨rfl, rfl⟩

theorem getLsbD_bitMask : ∀ (bitpos : BitVec 3), ∀ i < 8, (bitMask bitpos).getLsbD i = decide (i = 7 - bitpos.toNat) := by
  decide

theorem getLsbD_set_bit (bitpos : BitVec 3) (b : Byte) {i : Nat} (hi : i < 8) :
    (b ||| bitMask bitpos).getLsbD i = (decide (i = 7 - bitpos.toNat) || b.getLsbD i) := by
  rw [BitVec.getLsbD_or, getLsbD_bitMask bitpos i hi, Bool.or_comm]

theorem getLsbD_clear_bit (bitpos : BitVec 3) (b : Byte) {i : Nat} (hi : i < 8) :
    (b &&& ~~~(bitMask bitpos)).getLsbD i = (!decide (i = 7 - bitpos.toNat) && b.getLsbD i) := by
  rw [BitVec.getLsbD_and, BitVec.getLsbD_not, getLsbD_bitMask bitpos i hi, Bool.and_comm]
  simp [hi]

/-- A change of one bit of a device's byte: the bit is new, the others are those of the device's answer. -/
theorem modifyByte_device_bit {len ea : Word} {s : State} (hload : ReachesDevice .load 1 ea s)
    (hstore : ReachesDevice .store 1 ea s) {f : Byte → Byte} {k : Nat} {new : Bool} (hbit : ∀ b, (f b).getLsbD k = new)
    (hother : ∀ b j, j < 8 → j ≠ k → (f b).getLsbD j = b.getLsbD j) :
    RunsTo len { device := true, draws := s.deviceAnswers.isEmpty } s (finish len (modifyByte ea f s) s)
      (fun t => t.deviceAnswers = s.deviceAnswers.drop 1
        ∧ ∃ b : Byte, t.deviceAccesses = s.deviceAccesses ++ [.read ea 1, .write ea [b]] ∧ b.getLsbD k = new
          ∧ ∀ v ∈ s.deviceAnswers.head?, ∀ j, j < 8 → j ≠ k → b.getLsbD j = v.getLsbD j) := by
  have hdatum : ∀ v ∈ s.deviceAnswers.head?, (dataRead ea 1 s).extractLsb' 0 8 = v.setWidth 8 := by
    intro v hv
    rw [dataRead_of_device hload.onDevice hv]
    exact extractLsb'_and_mask (by omega) rfl v
  refine (modifyByte_runsTo_of_device hload hstore f).imp fun _ ⟨hanswers, haccesses⟩ =>
    ⟨hanswers, _, haccesses, hbit _, fun v hv j hj hne => ?_⟩
  rw [hother _ j hj hne, hdatum v hv, BitVec.getLsbD_setWidth, decide_eq_true hj, Bool.true_and]

/-- Settles O26: both instructions change one byte in place, and the mask names one bit of it. -/
theorem bitMemoryResults : Obligations.BitMemoryResults := by
  intro s r disp16 bitpos hm
  refine ⟨fun hload hstore => ⟨?_, ?_⟩, fun hload hstore i new hi => ?_⟩
  · exact (modifyByte_runsTo hm hload hstore _).imp fun _ ht i hi => ht ▸ getLsbD_set_bit bitpos _ hi
  · exact (modifyByte_runsTo hm hload hstore _).imp fun _ ht i hi => ht ▸ getLsbD_clear_bit bitpos _ hi
  · simp only [List.mem_cons, List.not_mem_nil, or_false, Prod.mk.injEq] at hi
    have hbit : 7 - bitpos.toNat < 8 := by omega
    obtain ⟨rfl, rfl⟩ | ⟨rfl, rfl⟩ := hi
    · exact modifyByte_device_bit hload hstore (fun b => by simp only [getLsbD_set_bit bitpos b hbit, decide_true, Bool.true_or])
        (fun b j hj hne => by simp only [getLsbD_set_bit bitpos b hj, hne, decide_false, Bool.false_or])
    · exact modifyByte_device_bit hload hstore
        (fun b => by simp only [getLsbD_clear_bit bitpos b hbit, decide_true, Bool.not_true, Bool.false_and])
        (fun b j hj hne => by simp only [getLsbD_clear_bit bitpos b hj, hne, decide_false, Bool.not_false, Bool.true_and])

/-! ### A store, then a load or a fetch -/

theorem exec_stInd_of_accessible {s : State} {p : RegNum} (h : Accessible .store 4 (readReg s p) s) (v : RegNum) :
    exec (.stInd v p) s
      = .next (commit { store := some { addr := readReg s p, bytes := wordBytes (readReg s v) } } (s.pc + 2) s) := by
  have hmemory : onDevice s.platform (readReg s p) (wordBytes (readReg s v)).length = false := h.onDevice
  have hexec : exec (.stInd v p) s = finish 2 (checked .store 4 (readReg s p) s
    (.writes (withWrite (readReg s p) (wordBytes (readReg s v)) s {}))) s := rfl
  rw [hexec, checked_of_accessible h, withWrite_of_memory hmemory, finish_writes]

/-- The platform's rule for user mode looks at the mode alone (R79). -/
theorem outsideAccess_congr (policy : OutsideAccess) {s t : State} (h : t.psw = s.psw) (a : Word) :
    outsideAccess policy t a = outsideAccess policy s a := by
  have huser : userMode t = userMode s := congrArg psw_pm h
  unfold outsideAccess
  rw [huser]

/-- Whether an access reaches memory depends on the platform and the mode alone. -/
theorem Accessible.congr {k : Access} {n : Nat} {a : Word} {s t : State} (h : Accessible k n a s)
    (hplatform : t.platform = s.platform) (hpsw : t.psw = s.psw) : Accessible k n a t := by
  unfold Accessible at h ⊢
  rwa [hplatform, outsideAccess_congr _ hpsw]

/-- Settles O27: the store leaves the registers and the access rules, so the load reads the word stored at the same address. -/
theorem storeThenLoadReturnsValue : Obligations.StoreThenLoadReturnsValue := by
  intro s t v p d hm hstore hload h
  rw [exec_stInd_of_accessible hstore v] at h
  obtain rfl := Host.Outcome.next.inj h
  have hkept : ∀ next, readReg (commit { store := some { addr := readReg s p, bytes := wordBytes (readReg s v) } } next s) p
      = readReg s p := fun next => readReg_commit rfl rfl next s p
  refine loadAction_writesReg (ext := id) ?_ d ?_
  · rw [hkept]
    exact hload.congr (commit_platform _ _ s) rfl
  · rw [hkept]
    exact readWord_writeBytes_same s.mem _ _ hm

theorem fetchAddress_of_aligned {s : State} (h : s.pc.toNat % 4 = 0) : fetchAddress s = s.pc := by
  rw [fetchAddress_eq_wordFloor, wordFloor]
  bv_omega

/-- A fetch that meets nothing else is refused where the word holds a byte stored to (R90, D3). -/
theorem step_of_written {s : State} (hreset : s.resetRequest = false) (hpend : pendingEvent s = none)
    (hout : outsideAccess s.platform.userFetch s (fetchAddress s) = none)
    (hmapped : accessStop s.platform .fetch (fetchAddress s) 4 = none) (hwritten : (fetchAddress s).toNat ∈ s.written) :
    step s = .refused (.selfModifiedCode (fetchAddress s)) := by
  have hstop : fetchStop s = some (.refuse (.selfModifiedCode (fetchAddress s))) := by
    simp [fetchStop, hmapped, wordWritten, hwritten]
  simp [step, hreset, hpend, hout, hstop, stopResult]

/-- Settles O29: the store records the address that the fetch looks up, and nothing else turns the fetch away. -/
theorem storedWordIsNotExecuted : Obligations.StoredWordIsNotExecuted := by
  intro s t v p hstore h hmapped hreset hpend hout
  have haligned : (readReg s p).toNat % 4 = 0 := by
    obtain ⟨haligned, -, -, -⟩ := hstore
    by_contra hne
    simp [(misaligned_word_iff _).mpr hne] at haligned
  have hfetch : fetchAddress { t with pc := readReg s p } = readReg s p := fetchAddress_of_aligned haligned
  have hwritten : (readReg s p).toNat ∈ t.written := by
    rw [exec_stInd_of_accessible hstore v] at h
    obtain rfl := Host.Outcome.next.inj h
    exact (mem_noteWritten 4 _ _ _).mpr (.inr ⟨readReg s p, List.mem_cons_self, rfl⟩)
  have hrefused := step_of_written (s := { t with pc := readReg s p }) hreset hpend
  rw [hfetch] at hrefused
  exact hrefused hout hmapped hwritten

/-! ### Who writes memory -/

section
variable {s : State}

theorem loadAction_leaves_memory (n : Nat) (ea : Word) (dest : RegNum) (ext : Word → Word) :
    (loadAction n ea dest ext s).Commits (fun e => e.store = none) :=
  commits_checked (commits_writes (withRead_store _ _ _ _))

theorem divideAction_leaves_memory (dest src : RegNum) (quot : Word → Word) :
    (divideAction s dest src quot).Commits (fun e => e.store = none) :=
  commits_ite (commits_writes rfl) (commits_writes rfl)

theorem setAcc_store (a : AccNum) (v : AccView) : (setAcc a v).store = none := by
  unfold setAcc
  split <;> rfl

theorem branchIf_leaves_memory (c : Bool) (target : Word) : (branchIf c target).Commits (fun e => e.store = none) := by
  cases c <;> exact commits_writes rfl

theorem branchLinkIf_leaves_memory (c : Bool) (target : Word) : (branchLinkIf c target s).Commits (fun e => e.store = none) := by
  cases c <;> exact commits_writes rfl

theorem mvfcAction_leaves_memory (dest : RegNum) (cr : BitVec 4) : (mvfcAction dest cr s).Commits (fun e => e.store = none) := by
  unfold mvfcAction
  split
  · exact commits_writes rfl
  · exact commits_reservedControl (fun _ => commits_writes rfl)

theorem writeControl_leaves_memory (cr : BitVec 4) (v : Word) : (writeControl cr v s).Commits (fun e => e.store = none) := by
  unfold writeControl
  split
  · exact commits_checkedPm (commits_writes rfl)
  · exact commits_writes rfl
  · exact commits_writes rfl
  · exact commits_writes rfl
  · exact commits_ite (commits_stops _) (commits_writes rfl)
  · exact commits_writes rfl
  · exact commits_reservedControl (fun _ => commits_writes rfl)

end

/-- An instruction that is no listed writer of memory stores nothing (R76). -/
theorem action_leaves_memory {i : Instr} (h : memoryWriter i = false) (pos : Position) (s : State) :
    (action pos i s).Commits (fun e => e.store = none) := by
  cases i with dsimp only [action]
  | stInd | stPreInc | stPreDec | stDisp | stbInd | stbPost | stbDisp | sthInd | sthPost | sthDisp | unlock | bset | bclr =>
    cases h
  | ldInd | ldDisp | ldbInd | ldbDisp | ldubInd | ldubDisp | ldhInd | ldhDisp | lduhInd | lduhDisp =>
    exact loadAction_leaves_memory _ _ _ _
  | ldPost => exact commits_ite (commits_stops _) (commits_checked (commits_writes (withRead_store _ _ _ _)))
  | lock => exact commits_checked (commits_writes (withRead_store _ _ _ _))
  | div | rem => exact commits_ite (commits_writes rfl) (divideAction_leaves_memory _ _ _)
  | divb | divh | divu | divub | divuh | remb | remh | remu | remub | remuh => exact divideAction_leaves_memory _ _ _
  | mulhi | mullo | mulwhi | mulwlo | mulwu1 | machi | maclo | macwhi | macwlo | maclh1 | macwu1 | msblo | sadd | rac | rach
  | mvtachi | mvtaclo =>
    exact commits_writes (setAcc_store _ _)
  | bc8 | bc24 | bnc8 | bnc24 | bra8 | bra24 | beq | bne | beqz | bnez | bltz | bgez | blez | bgtz | jc | jmp | jnc =>
    exact branchIf_leaves_memory _ _
  | bcl8 | bcl24 | bl8 | bl24 | bncl8 | bncl24 | jl => exact branchLinkIf_leaves_memory _ _
  | sc | snc =>
    cases pos
    · exact commits_ite (commits_writes rfl) (commits_stops _)
    · exact commits_writes rfl
  | mvfc => exact mvfcAction_leaves_memory _ _
  | mvtc => exact commits_privileged (writeControl_leaves_memory _ _)
  | setpsw => exact commits_privileged (commits_checkedPm (commits_writes rfl))
  | clrpsw | rte => exact commits_privileged (commits_writes rfl)
  | mvfcp | mvtcp | opecp => exact commits_withCoprocessor (commits_writes rfl)
  | _ => exact commits_writes rfl

/-- Where no instruction of the unit writes memory, nor does the unit. -/
theorem UnitNext.leaves_memory {is : List Instr} {len : Word} {s t : State} (h : UnitNext is len s t)
    (hwriter : ∀ i ∈ is, memoryWriter i = false) : t.mem = s.mem ∧ t.written = s.written := by
  rcases h with ⟨ev, ret, rfl⟩ | ⟨e, he, -, rfl⟩
  · exact ⟨enterEIT_mem ev ret s, enterEIT_written ev ret s⟩
  · have hstore : e.store = none :=
      he.satisfies (P := fun e => e.store = none) (fun i hi pos => action_leaves_memory (hwriter i hi) pos s)
        (fun _ _ _ hu hl => by simp [mergeEffects, hu, hl])
    simp [hstore, commitMem, commitWritten]

/-- Settles O28: a reset keeps memory, EIT entry writes none, and a unit commits the stores of its instructions only. -/
theorem onlyStoresWriteMemory : Obligations.OnlyStoresWriteMemory := by
  refine ⟨fun is len s t h hwriter => (stepOf_unitNext h).leaves_memory hwriter, fun s t h hwriter => ?_⟩
  cases hreset : s.resetRequest with
  | false =>
    obtain ⟨hmem, -⟩ := (step_unitNext hreset h).leaves_memory hwriter
    exact hmem
  | true =>
    have ht : takeReset s = t := by simpa [step, hreset] using h
    exact ht ▸ takeReset_mem s

end Sys2Proof.Machine
end

section
/-! The encoding (`30_encoding.md`): what a row of the tables fixes of the words that fit it, why two rows never fit the same word,
what a reserved pattern decodes to, and what a step makes of it. -/

namespace Sys2Proof

/-! ### What a row fixes -/

section
variable {n : Nat} {r : Row n} {w : BitVec n}

theorem Row.fits_iff : r.fits w = true ↔ w &&& r.mask = r.bits := by
  simp [Row.fits]

theorem Row.getLsbD_of_fits (h : r.fits w = true) {j : Nat} (hj : r.mask.getLsbD j = true) :
    w.getLsbD j = r.bits.getLsbD j := by
  simp [← Row.fits_iff.mp h, hj]

end

/-- No 16-bit row fixes bit 15, the parallel bit (R103). -/
theorem rows16_mask_bit15 : ∀ r ∈ rows16, 0x7FFF#16 &&& r.mask = r.mask := by decide

theorem extractLsb'_clear_bit15 {start len : Nat} (h : start + len ≤ 15) (w : Half) :
    (w &&& 0x7FFF#16).extractLsb' start len = w.extractLsb' start len := by
  have low : ∀ j < 15, (0x7FFF#16).getLsbD j = true := by decide
  apply BitVec.eq_of_getLsbD_eq
  intro i hi
  simp [hi, low (start + i) (by omega)]

/-- No 16-bit row reads a field from bit 15 (R103). -/
theorem rows16_build_clear_bit15 : ∀ r ∈ rows16, ∀ h : Half, r.build (h &&& 0x7FFF#16) = r.build h := by
  simp only [rows16, rows16m000, rows16m001, rows16m010, rows16m011, rows16m100, rows16m101, rows16m110, rows16m111,
    List.forall_mem_append, List.forall_mem_cons]
  simp only [extractLsb'_clear_bit15, Nat.reduceAdd, Nat.reduceLeDiff, implies_true, and_self, List.not_mem_nil, IsEmpty.forall_iff]

/-- The parallel bit takes no part in decoding (R103). -/
theorem decode16_clear_bit15 (h : Half) : decode16 (h &&& 0x7FFF#16) = decode16 h := by
  have same : rows16.find? (fun r => r.fits (h &&& 0x7FFF#16)) = rows16.find? (fun r => r.fits h) :=
    List.find?_congr fun r hr => by rw [Row.fits, Row.fits, BitVec.and_assoc, rows16_mask_bit15 r hr]
  rw [decode16, same, decode16]
  exact Option.map_congr fun r hr => rows16_build_clear_bit15 r (List.mem_of_find?_eq_some hr) h

/-- Settles O2: both halfwords are the given one once bit 15 is cleared, and decoding is of the cleared halfword. -/
theorem parallelBitDoesNotSelect : Obligations.ParallelBitDoesNotSelect := by
  intro h
  have cleared : (h ||| 0x8000#16) &&& 0x7FFF#16 = h &&& 0x7FFF#16 := by
    rw [BitVec.and_comm, BitVec.and_or_distrib_left, BitVec.and_comm]
    simp
  have set : decode16 (h ||| 0x8000#16) = decode16 h := by
    rw [← decode16_clear_bit15 (h ||| 0x8000#16), cleared, decode16_clear_bit15]
  exact ⟨set, decode16_clear_bit15 h⟩

/-- Rows that are pairwise apart are rows that pairwise fit no common word. -/
theorem pairwise_not_both_fit {n : Nat} {rows : List (Row n)} (h : rows.Pairwise (fun a b => a.apart b = true)) :
    rows.Pairwise (fun a b => ∀ w, ¬ (a.fits w = true ∧ b.fits w = true)) :=
  h.imp fun hab w ⟨ha, hb⟩ => by simp [Row.apart_not_fits hab ha] at hb

/-- Settles O3: in each table two rows differ in a bit that both fix. -/
theorem rowsDoNotOverlap : Obligations.RowsDoNotOverlap :=
  ⟨pairwise_not_both_fit rows16_apart, fun c hc => pairwise_not_both_fit (rows32_apart c hc)⟩

/-- Settles O5: each word is run through the decoder. -/
theorem specWordsDecode : Obligations.SpecWordsDecode := by
  unfold Obligations.SpecWordsDecode
  decide

/-! ### The unit of a word -/

section
variable {c : Encoding} {w : Word}

theorem decodeUnit_word (h31 : w.getLsbD 31 = true) :
    decodeUnit c false w = singleOr (inRieSet32 c w) 4 (decode32 c w) := by
  simp only [decodeUnit, h31]

/-- A halfword that stands alone: the upper one, or the lower one where the pc names it (R310). -/
theorem decodeUnit_half {lower : Bool} {h : Half} (h31 : w.getLsbD 31 = false) (h15 : w.getLsbD 15 = false)
    (hh : (if lower then w.extractLsb' 0 16 else w.extractLsb' 16 16) = h) :
    decodeUnit c lower w = singleOr (inRieSet16 c h) 2 (decode16 h) := by
  subst hh
  cases lower <;> simp only [decodeUnit, h31, h15, upperHalf, lowerHalf, Bool.false_eq_true, if_true, if_false]

/-- A pair with a half that does not decode is reserved as a whole (R325, D15). -/
theorem decodeUnit_reserved_pair (h31 : w.getLsbD 31 = false) (h15 : w.getLsbD 15 = true)
    (hh : ∃ h ∈ [w.extractLsb' 16 16, w.extractLsb' 0 16], decode16 h = none ∧ inRieSet16 c h = true) :
    decodeUnit c false w = .reserved 4 := by
  obtain ⟨h, hmem, hnone, hrie⟩ := hh
  simp only [List.mem_cons, List.not_mem_nil, or_false] at hmem
  rcases hmem with rfl | rfl
  · simp only [decodeUnit, h31, h15, upperHalf, hnone, hrie, Option.isNone_none, Bool.and_self, Bool.true_or, if_true]
  · cases hu : decode16 (w.extractLsb' 16 16) <;>
      simp only [decodeUnit, h31, h15, upperHalf, lowerHalf, hnone, hrie, hu, Option.isNone_none, Bool.and_self, Bool.or_true,
        if_true]

theorem decode32_eq_none_iff : decode32 c w = none ↔ ∀ r ∈ rows32 c, r.fits w = false := by
  simp [decode32]

end

/-! ### The major opcode of the 32-bit forms -/

/-- What holds of the fixed rows, and of the coprocessor rows at every width of `cpid`, holds of the rows that every platform
has. -/
theorem forall_rows32_of_widths {P : Row 32 → Prop} (fixed : ∀ r ∈ rows32Fixed, P r)
    (cop : ∀ k : Fin 13, ∀ r ∈ rows32Cop { Encoding.standard with cpidWidth := k }, P r) (c : Encoding) :
    ∀ r ∈ rows32Fixed ++ rows32Cop c, P r := by
  intro r hr
  rcases List.mem_append.mp hr with hr | hr
  · exact fixed r hr
  · exact cop c.cpidWidth r hr

/-- Every row but OPECP's fixes the major opcode, to another value than 1100 (R122, R123). -/
theorem rows32_major (c : Encoding) : ∀ r ∈ rows32Fixed ++ rows32Cop c, r.mask.extractLsb' 28 4 = BitVec.allOnes 4
    ∧ r.bits.extractLsb' 28 4 ≠ 0b1100#4 :=
  forall_rows32_of_widths (by decide) (by decide) c

theorem decode32_major1100 {c : Encoding} {w : Word} (hmajor : w.extractLsb' 28 4 = 0b1100#4)
    (hopecp : ∀ o ∈ c.opecp, o.pattern.fits w = false) : decode32 c w = none := by
  refine decode32_eq_none_iff.mpr fun r hr => ?_
  rcases List.mem_append.mp hr with hr | hr
  · obtain ⟨hmask, hbits⟩ := rows32_major c r hr
    refine Bool.eq_false_iff.mpr fun hfits => hbits ?_
    rw [← Row.fits_iff.mp hfits, BitVec.extractLsb'_and, hmask, BitVec.and_allOnes, hmajor]
  · obtain ⟨o, ho, rfl⟩ := Option.map_eq_some_iff.mp (Option.mem_toList.mp hr)
    exact hopecp o ho

end Sys2Proof

namespace Sys2Proof.Machine

/-! ### A step on a reserved pattern, and on a pair -/

theorem step_eq_execUnit {s : State} (h : Fetches s) :
    step s = execUnit (decodeUnit s.platform.encoding (s.pc.getLsbD 1) (readWord s.mem (wordFloor s.pc))) s := by
  obtain ⟨hreset, hpend, hout, hstop⟩ := h
  rw [← fetchAddress_eq_wordFloor]
  simp [step, hreset, hpend, hout, hstop, fetchUnit]

/-- A pattern that no row matches raises RIE where it is in `RIE_SET`, and is refused where it is not (R126, D15). -/
theorem execUnit_singleOr_none (rie : Bool) (len : Word) (s : State) :
    (rie = true → Enters .rie len s (execUnit (singleOr rie len none) s))
      ∧ (rie = false → execUnit (singleOr rie len none) s = .refused .reservedPattern) := by
  constructor <;> rintro rfl
  · exact enters_finish_raises .rie len s
  · rfl

theorem step_reserved_word {s : State} {w : Word} (hfetch : Fetches s) (hpc : s.pc.getLsbD 1 = false)
    (hw : readWord s.mem (wordFloor s.pc) = w) (h31 : w.getLsbD 31 = true) (hnone : decode32 s.platform.encoding w = none) :
    (inRieSet32 s.platform.encoding w = true → Enters .rie 4 s (step s))
      ∧ (inRieSet32 s.platform.encoding w = false → step s = .refused .reservedPattern) := by
  rw [step_eq_execUnit hfetch, hw, hpc, decodeUnit_word h31, hnone]
  exact execUnit_singleOr_none _ 4 s

theorem step_reserved_half {s : State} {h : Half} (hfetch : Fetches s)
    (h31 : (readWord s.mem (wordFloor s.pc)).getLsbD 31 = false) (h15 : (readWord s.mem (wordFloor s.pc)).getLsbD 15 = false)
    (hh : (if s.pc.getLsbD 1 then (readWord s.mem (wordFloor s.pc)).extractLsb' 0 16
      else (readWord s.mem (wordFloor s.pc)).extractLsb' 16 16) = h) (hnone : decode16 h = none) :
    (inRieSet16 s.platform.encoding h = true → Enters .rie 2 s (step s))
      ∧ (inRieSet16 s.platform.encoding h = false → step s = .refused .reservedPattern) := by
  rw [step_eq_execUnit hfetch, decodeUnit_half h31 h15 hh, hnone]
  exact execUnit_singleOr_none _ 2 s

/-- Settles O4: what matches no row decodes to a reserved unit, and no row but OPECP's matches major opcode 1100. -/
theorem unusedMajorRaisesRie : Obligations.UnusedMajorRaisesRie := by
  refine ⟨fun s w hmajor hopecp hrie hfetch hpc hw => ?_,
    fun s w hfetch hpc hw h31 hnone => step_reserved_word hfetch hpc hw h31 hnone,
    fun s h hfetch h31 h15 hh hnone => step_reserved_half hfetch h31 h15 hh hnone⟩
  have h31 : w.getLsbD 31 = true := by
    simpa using congrArg (fun m => m.getLsbD 3) hmajor
  exact (step_reserved_word hfetch hpc hw h31 (decode32_major1100 hmajor hopecp)).1 hrie

/-- An event of the upper half is the event of the pair, whatever the lower half does (R325). -/
theorem execPair_of_raises {u l : Instr} {s : State} {ev : Event} (h : action .pair u s = .raises ev) :
    execPair u l s = finish 4 (.raises ev) s := by
  rw [execPair, h, pairActions]

/-- Settles O56: the event of the upper half is the pair's, and a word with a reserved half is a reserved unit. -/
theorem pairExceptions : Obligations.PairExceptions := by
  refine ⟨fun s u l ev h => ?_, fun s hfetch hpc h31 h15 hh => ?_⟩
  · rw [execPair_of_raises h]
    exact enters_finish_raises ev 4 s
  · rw [step_eq_execUnit hfetch, hpc, decodeUnit_reserved_pair h31 h15 hh]
    exact enters_finish_raises .rie 4 s

end Sys2Proof.Machine
end

section
/-! Decode and encode agree (`30_encoding.md`, R105, R120 to R122). An instruction is read back when its word has the constant bits of
a row of the table, named by its place `k` there, and that row's fields are the operands. The forms without coprocessor fields are
laid out in a few ways, one lemma each; MVFCP, MVTCP and OPECP are one layout, whose fields a platform places (D12, log 19). -/

namespace Sys2Proof

/-- The word an instruction is encoded as decodes to it. -/
def RoundTrips (c : Encoding) (i : Instr) : Prop := ∃ w, encode c i = some w ∧ decodeCode c w = .single i

/-! ### One row, one word -/

/-- The constant bits of a 16-bit row are under its mask, and leave bit 15, the parallel bit, 0. -/
theorem rows16_bits : ∀ r ∈ rows16, (r.mask ||| 0x8000#16) &&& r.mask = r.mask ∧ r.bits &&& r.mask = r.bits
    ∧ (r.mask ||| 0x8000#16).getLsbD 15 = true ∧ r.bits.getLsbD 15 = false := by decide

/-- A halfword with the constant bits of row `k` and parallel bit 0 is read back by that row. -/
theorem roundTrips_half {c : Encoding} {i : Instr} {h : Half} {r : Row 16} {k : Nat} (henc : encode c i = some (.half h))
    (hrow : rows16[k]? = some r) {cover : Half} (hcover : r.mask ||| 0x8000#16 = cover) (hword : h &&& cover = r.bits)
    (hbuild : r.build h = i) : RoundTrips c i := by
  subst hcover
  have hmem : r ∈ rows16 := List.mem_of_getElem? hrow
  obtain ⟨hmask, hbits, htop, hp⟩ := rows16_bits r hmem
  have hfits : r.fits h = true := by
    rw [Row.fits_iff, ← hmask, ← BitVec.and_assoc, hword, hbits]
  have h15 : h.getLsbD 15 = false := by
    rw [← hword, BitVec.getLsbD_and, htop, Bool.and_true] at hp
    exact hp
  have hupper : (h ++ 0#16).extractLsb' 16 16 = h := by
    rw [BitVec.extractLsb'_append_eq_of_le (Nat.le_refl 16), Nat.sub_self, BitVec.extractLsb'_eq_self]
  have hunit : decodeUnit c false (h ++ 0#16) = singleOr (inRieSet16 c h) 2 (decode16 h) :=
    decodeUnit_half (by rw [BitVec.getLsbD_append]; exact h15) (by rw [BitVec.getLsbD_append]; rfl) hupper
  exact ⟨_, henc, by rw [decodeCode, hunit, decode16_of_fits hmem hfits, hbuild, singleOr]⟩

/-- Every 32-bit row fixes bit 31 to 1 (R101). -/
theorem rows32_bit31 {c : Encoding} (hc : c.wf = true) :
    ∀ r ∈ rows32 c, r.mask.getLsbD 31 = true ∧ r.bits.getLsbD 31 = true := by
  intro r hr
  rcases List.mem_append.mp hr with hr | hr
  · exact forall_rows32_of_widths (P := fun r => r.mask.getLsbD 31 = true ∧ r.bits.getLsbD 31 = true)
      (by decide) (by decide) c r hr
  · obtain ⟨o, ho, rfl⟩ := Option.map_eq_some_iff.mp (Option.mem_toList.mp hr)
    have hwf : o.wf c = true := by simpa [Encoding.wf, ho] using hc
    simp only [OpecpEncoding.wf, Bool.and_eq_true] at hwf
    obtain ⟨⟨⟨⟨⟨⟨⟨⟨hmask, hbits⟩, -⟩, -⟩, -⟩, -⟩, -⟩, -⟩, -⟩ := hwf
    exact ⟨hmask, hbits⟩

/-- A word with the constant bits of a row is read back by that row. -/
theorem roundTrips_word {c : Encoding} (hc : c.wf = true) {i : Instr} {w : Word} {r : Row 32} (henc : encode c i = some (.word w))
    (hr : r ∈ rows32 c) (hword : w &&& r.mask = r.bits) (hbuild : r.build w = i) : RoundTrips c i := by
  have hfits : r.fits w = true := Row.fits_iff.mpr hword
  obtain ⟨hmask, hbits⟩ := rows32_bit31 hc r hr
  have h31 : w.getLsbD 31 = true := (Row.getLsbD_of_fits hfits hmask).trans hbits
  exact ⟨_, henc, by rw [decodeCode, decodeUnit_word h31, decode32_of_fits hc hr hfits, hbuild, singleOr]⟩

theorem mem_rows32_of_fixed {c : Encoding} {r : Row 32} {k : Nat} (h : rows32Fixed[k]? = some r) : r ∈ rows32 c := by
  simp [rows32, List.mem_of_getElem? h]

/-! ### The layouts of 16-bit forms, with the mask of their rows (R121) -/

namespace Layout16

variable {c : Encoding}

/-- Two operands of four bits, each below four constant bits. -/
theorem nibbles {op fn : BitVec 4} {mk : BitVec 4 → BitVec 4 → Instr} (k : Nat)
    (henc : ∀ f g, encode c (mk f g) = some (.half (op ++ f ++ fn ++ g)))
    (hrow : rows16[k]? = some ⟨0x70F0, op ++ 0#4 ++ fn ++ 0#4,
      fun h => mk (h.extractLsb' 8 4) (h.extractLsb' 0 4)⟩)
    {f g : BitVec 4} : RoundTrips c (mk f g) := by
  have hword : (op ++ f ++ fn ++ g) &&& (BitVec.allOnes 4 ++ 0#4 ++ BitVec.allOnes 4 ++ 0#4)
      = op ++ 0#4 ++ fn ++ 0#4 := by
    simp only [BitVec.and_append, BitVec.and_allOnes, BitVec.and_zero]
  refine roundTrips_half (henc f g) hrow (by dsimp only; decide) hword ?_
  show mk _ _ = mk f g
  congr 1 <;> grind

/-- One operand of four bits below twelve constant bits. -/
theorem lowNibble {op : BitVec 12} {mk : BitVec 4 → Instr} (k : Nat)
    (henc : ∀ g, encode c (mk g) = some (.half (op ++ g)))
    (hrow : rows16[k]? = some ⟨0x7FF0, op ++ 0#4, fun h => mk (h.extractLsb' 0 4)⟩)
    {g : BitVec 4} : RoundTrips c (mk g) := by
  have hword : (op ++ g) &&& (BitVec.allOnes 12 ++ 0#4) = op ++ 0#4 := by
    simp only [BitVec.and_append, BitVec.and_allOnes, BitVec.and_zero]
  refine roundTrips_half (henc g) hrow (by dsimp only; decide) hword ?_
  show mk _ = mk g
  congr 1; grind

/-- An operand of four bits and an immediate of eight. -/
theorem nibbleByte {op : BitVec 4} {mk : BitVec 4 → BitVec 8 → Instr} (k : Nat)
    (henc : ∀ f imm, encode c (mk f imm) = some (.half (op ++ f ++ imm)))
    (hrow : rows16[k]? = some ⟨0x7000, op ++ 0#4 ++ 0#8,
      fun h => mk (h.extractLsb' 8 4) (h.extractLsb' 0 8)⟩)
    {f : BitVec 4} {imm : BitVec 8} : RoundTrips c (mk f imm) := by
  have hword : (op ++ f ++ imm) &&& (BitVec.allOnes 4 ++ 0#4 ++ 0#8) = op ++ 0#4 ++ 0#8 := by
    simp only [BitVec.and_append, BitVec.and_allOnes, BitVec.and_zero]
  refine roundTrips_half (henc f imm) hrow (by dsimp only; decide) hword ?_
  show mk _ _ = mk f imm
  congr 1 <;> grind

/-- An operand of four bits and an immediate of five. -/
theorem nibbleImm5 {op : BitVec 4} {fn : BitVec 3} {mk : BitVec 4 → BitVec 5 → Instr} (k : Nat)
    (henc : ∀ f imm, encode c (mk f imm) = some (.half (op ++ f ++ fn ++ imm)))
    (hrow : rows16[k]? = some ⟨0x70E0, op ++ 0#4 ++ fn ++ 0#5,
      fun h => mk (h.extractLsb' 8 4) (h.extractLsb' 0 5)⟩)
    {f : BitVec 4} {imm : BitVec 5} : RoundTrips c (mk f imm) := by
  have hword : (op ++ f ++ fn ++ imm) &&& (BitVec.allOnes 4 ++ 0#4 ++ BitVec.allOnes 3 ++ 0#5)
      = op ++ 0#4 ++ fn ++ 0#5 := by
    simp only [BitVec.and_append, BitVec.and_allOnes, BitVec.and_zero]
  refine roundTrips_half (henc f imm) hrow (by dsimp only; decide) hword ?_
  show mk _ _ = mk f imm
  congr 1 <;> grind

/-- One operand of eight bits below eight constant bits. -/
theorem lowByte {op : BitVec 8} {mk : BitVec 8 → Instr} (k : Nat)
    (henc : ∀ imm, encode c (mk imm) = some (.half (op ++ imm)))
    (hrow : rows16[k]? = some ⟨0x7F00, op ++ 0#8, fun h => mk (h.extractLsb' 0 8)⟩)
    {imm : BitVec 8} : RoundTrips c (mk imm) := by
  have hword : (op ++ imm) &&& (BitVec.allOnes 8 ++ 0#8) = op ++ 0#8 := by
    simp only [BitVec.and_append, BitVec.and_allOnes, BitVec.and_zero]
  refine roundTrips_half (henc imm) hrow (by dsimp only; decide) hword ?_
  show mk _ = mk imm
  congr 1; grind

/-- A bit number and an operand of four bits. -/
theorem bitNibble {op : BitVec 5} {fn : BitVec 4} {mk : BitVec 3 → BitVec 4 → Instr} (k : Nat)
    (henc : ∀ b g, encode c (mk b g) = some (.half (op ++ b ++ fn ++ g)))
    (hrow : rows16[k]? = some ⟨0x78F0, op ++ 0#3 ++ fn ++ 0#4,
      fun h => mk (h.extractLsb' 8 3) (h.extractLsb' 0 4)⟩)
    {b : BitVec 3} {g : BitVec 4} : RoundTrips c (mk b g) := by
  have hword : (op ++ b ++ fn ++ g) &&& (BitVec.allOnes 5 ++ 0#3 ++ BitVec.allOnes 4 ++ 0#4)
      = op ++ 0#3 ++ fn ++ 0#4 := by
    simp only [BitVec.and_append, BitVec.and_allOnes, BitVec.and_zero]
  refine roundTrips_half (henc b g) hrow (by dsimp only; decide) hword ?_
  show mk _ _ = mk b g
  congr 1 <;> grind

/-- Two operands of four bits with the number of an accumulator between them. -/
theorem nibblesAcc {op : BitVec 4} {fn : BitVec 3}
    {mk : BitVec 4 → BitVec 1 → BitVec 4 → Instr} (k : Nat)
    (henc : ∀ f acc g, encode c (mk f acc g) = some (.half (op ++ f ++ acc ++ fn ++ g)))
    (hrow : rows16[k]? = some ⟨0x7070, op ++ 0#4 ++ 0#1 ++ fn ++ 0#4,
      fun h => mk (h.extractLsb' 8 4) (h.extractLsb' 7 1) (h.extractLsb' 0 4)⟩)
    {f : BitVec 4} {acc : BitVec 1} {g : BitVec 4} : RoundTrips c (mk f acc g) := by
  have hword : (op ++ f ++ acc ++ fn ++ g) &&& (BitVec.allOnes 4 ++ 0#4 ++ 0#1 ++ BitVec.allOnes 3 ++ 0#4)
      = op ++ 0#4 ++ 0#1 ++ fn ++ 0#4 := by
    simp only [BitVec.and_append, BitVec.and_allOnes, BitVec.and_zero]
  refine roundTrips_half (henc f acc g) hrow (by dsimp only; decide) hword ?_
  show mk _ _ _ = mk f acc g
  congr 1 <;> grind

/-- An operand of four bits and the number of an accumulator. -/
theorem nibbleAcc {op : BitVec 4} {fn : BitVec 5} {last : BitVec 2}
    {mk : BitVec 4 → BitVec 1 → Instr} (k : Nat)
    (henc : ∀ f acc, encode c (mk f acc) = some (.half (op ++ f ++ fn ++ acc ++ last)))
    (hrow : rows16[k]? = some ⟨0x70FB, op ++ 0#4 ++ fn ++ 0#1 ++ last,
      fun h => mk (h.extractLsb' 8 4) (h.extractLsb' 2 1)⟩)
    {f : BitVec 4} {acc : BitVec 1} : RoundTrips c (mk f acc) := by
  have hword : (op ++ f ++ fn ++ acc ++ last) &&& (BitVec.allOnes 4 ++ 0#4 ++ BitVec.allOnes 5 ++ 0#1 ++ BitVec.allOnes 2)
      = op ++ 0#4 ++ fn ++ 0#1 ++ last := by
    simp only [BitVec.and_append, BitVec.and_allOnes, BitVec.and_zero]
  refine roundTrips_half (henc f acc) hrow (by dsimp only; decide) hword ?_
  show mk _ _ = mk f acc
  congr 1 <;> grind

/-- The numbers of two accumulators and one bit. -/
theorem accs {op : BitVec 5} {fn : BitVec 7} {last : BitVec 1}
    {mk : BitVec 1 → BitVec 1 → BitVec 1 → Instr} (k : Nat)
    (henc : ∀ d e imm, encode c (mk d e imm) = some (.half (op ++ d ++ fn ++ e ++ last ++ imm)))
    (hrow : rows16[k]? = some ⟨0x7BFA, op ++ 0#1 ++ fn ++ 0#1 ++ last ++ 0#1,
      fun h => mk (h.extractLsb' 10 1) (h.extractLsb' 2 1) (h.extractLsb' 0 1)⟩)
    {d e imm : BitVec 1} : RoundTrips c (mk d e imm) := by
  have hword :
      (op ++ d ++ fn ++ e ++ last ++ imm) &&& (BitVec.allOnes 5 ++ 0#1 ++ BitVec.allOnes 7 ++ 0#1 ++ BitVec.allOnes 1 ++ 0#1)
      = op ++ 0#1 ++ fn ++ 0#1 ++ last ++ 0#1 := by
    simp only [BitVec.and_append, BitVec.and_allOnes, BitVec.and_zero]
  refine roundTrips_half (henc d e imm) hrow (by dsimp only; decide) hword ?_
  show mk _ _ _ = mk d e imm
  congr 1 <;> grind

end Layout16

/-! ### The layouts of 32-bit forms without coprocessor fields, with the mask of their rows (R122) -/

namespace Layout32

variable {c : Encoding}

/-- Two operands of four bits and a halfword. -/
theorem nibblesHalf (hc : c.wf = true) {op fn : BitVec 4} {mk : BitVec 4 → BitVec 4 → BitVec 16 → Instr} (k : Nat)
    (henc : ∀ f g imm, encode c (mk f g imm) = some (.word (op ++ f ++ fn ++ g ++ imm)))
    (hrow : rows32Fixed[k]? = some ⟨0xF0F00000, op ++ 0#4 ++ fn ++ 0#4 ++ 0#16,
      fun w => mk (w.extractLsb' 24 4) (w.extractLsb' 16 4) (w.extractLsb' 0 16)⟩)
    {f g : BitVec 4} {imm : BitVec 16} : RoundTrips c (mk f g imm) := by
  have hword : (op ++ f ++ fn ++ g ++ imm) &&& (BitVec.allOnes 4 ++ 0#4 ++ BitVec.allOnes 4 ++ 0#4 ++ 0#16)
      = op ++ 0#4 ++ fn ++ 0#4 ++ 0#16 := by
    simp only [BitVec.and_append, BitVec.and_allOnes, BitVec.and_zero]
  refine roundTrips_word hc (henc f g imm) (mem_rows32_of_fixed hrow) hword ?_
  show mk _ _ _ = mk f g imm
  congr 1 <;> grind

/-- Two operands of four bits above a constant halfword. -/
theorem nibbles (hc : c.wf = true) {op fn : BitVec 4} {low : BitVec 16} {mk : BitVec 4 → BitVec 4 → Instr} (k : Nat)
    (henc : ∀ f g, encode c (mk f g) = some (.word (op ++ f ++ fn ++ g ++ low)))
    (hrow : rows32Fixed[k]? = some ⟨0xF0F0FFFF, op ++ 0#4 ++ fn ++ 0#4 ++ low,
      fun w => mk (w.extractLsb' 24 4) (w.extractLsb' 16 4)⟩)
    {f g : BitVec 4} : RoundTrips c (mk f g) := by
  have hword : (op ++ f ++ fn ++ g ++ low) &&& (BitVec.allOnes 4 ++ 0#4 ++ BitVec.allOnes 4 ++ 0#4 ++ BitVec.allOnes 16)
      = op ++ 0#4 ++ fn ++ 0#4 ++ low := by
    simp only [BitVec.and_append, BitVec.and_allOnes, BitVec.and_zero]
  refine roundTrips_word hc (henc f g) (mem_rows32_of_fixed hrow) hword ?_
  show mk _ _ = mk f g
  congr 1 <;> grind

/-- An operand of four bits below twelve constant bits, and a halfword. -/
theorem lowNibbleHalf (hc : c.wf = true) {op : BitVec 12} {mk : BitVec 4 → BitVec 16 → Instr} (k : Nat)
    (henc : ∀ g imm, encode c (mk g imm) = some (.word (op ++ g ++ imm)))
    (hrow : rows32Fixed[k]? = some ⟨0xFFF00000, op ++ 0#4 ++ 0#16,
      fun w => mk (w.extractLsb' 16 4) (w.extractLsb' 0 16)⟩)
    {g : BitVec 4} {imm : BitVec 16} : RoundTrips c (mk g imm) := by
  have hword : (op ++ g ++ imm) &&& (BitVec.allOnes 12 ++ 0#4 ++ 0#16) = op ++ 0#4 ++ 0#16 := by
    simp only [BitVec.and_append, BitVec.and_allOnes, BitVec.and_zero]
  refine roundTrips_word hc (henc g imm) (mem_rows32_of_fixed hrow) hword ?_
  show mk _ _ = mk g imm
  congr 1 <;> grind

/-- An operand of four bits above eight constant bits, and a halfword. -/
theorem nibbleHalf (hc : c.wf = true) {op : BitVec 4} {fn : BitVec 8} {mk : BitVec 4 → BitVec 16 → Instr} (k : Nat)
    (henc : ∀ f imm, encode c (mk f imm) = some (.word (op ++ f ++ fn ++ imm)))
    (hrow : rows32Fixed[k]? = some ⟨0xF0FF0000, op ++ 0#4 ++ fn ++ 0#16,
      fun w => mk (w.extractLsb' 24 4) (w.extractLsb' 0 16)⟩)
    {f : BitVec 4} {imm : BitVec 16} : RoundTrips c (mk f imm) := by
  have hword : (op ++ f ++ fn ++ imm) &&& (BitVec.allOnes 4 ++ 0#4 ++ BitVec.allOnes 8 ++ 0#16)
      = op ++ 0#4 ++ fn ++ 0#16 := by
    simp only [BitVec.and_append, BitVec.and_allOnes, BitVec.and_zero]
  refine roundTrips_word hc (henc f imm) (mem_rows32_of_fixed hrow) hword ?_
  show mk _ _ = mk f imm
  congr 1 <;> grind

/-- An operand of four bits and one of 24. -/
theorem nibbleLow24 (hc : c.wf = true) {op : BitVec 4} {mk : BitVec 4 → BitVec 24 → Instr} (k : Nat)
    (henc : ∀ f imm, encode c (mk f imm) = some (.word (op ++ f ++ imm)))
    (hrow : rows32Fixed[k]? = some ⟨0xF0000000, op ++ 0#4 ++ 0#24,
      fun w => mk (w.extractLsb' 24 4) (w.extractLsb' 0 24)⟩)
    {f : BitVec 4} {imm : BitVec 24} : RoundTrips c (mk f imm) := by
  have hword : (op ++ f ++ imm) &&& (BitVec.allOnes 4 ++ 0#4 ++ 0#24) = op ++ 0#4 ++ 0#24 := by
    simp only [BitVec.and_append, BitVec.and_allOnes, BitVec.and_zero]
  refine roundTrips_word hc (henc f imm) (mem_rows32_of_fixed hrow) hword ?_
  show mk _ _ = mk f imm
  congr 1 <;> grind

/-- One operand of 24 bits below eight constant bits. -/
theorem low24 (hc : c.wf = true) {op : BitVec 8} {mk : BitVec 24 → Instr} (k : Nat)
    (henc : ∀ imm, encode c (mk imm) = some (.word (op ++ imm)))
    (hrow : rows32Fixed[k]? = some ⟨0xFF000000, op ++ 0#24,
      fun w => mk (w.extractLsb' 0 24)⟩)
    {imm : BitVec 24} : RoundTrips c (mk imm) := by
  have hword : (op ++ imm) &&& (BitVec.allOnes 8 ++ 0#24) = op ++ 0#24 := by
    simp only [BitVec.and_append, BitVec.and_allOnes, BitVec.and_zero]
  refine roundTrips_word hc (henc imm) (mem_rows32_of_fixed hrow) hword ?_
  show mk _ = mk imm
  congr 1; grind

/-- A bit number, an operand of four bits and a halfword. -/
theorem bitNibbleHalf (hc : c.wf = true) {op : BitVec 5} {fn : BitVec 4}
    {mk : BitVec 3 → BitVec 4 → BitVec 16 → Instr} (k : Nat)
    (henc : ∀ b g imm, encode c (mk b g imm) = some (.word (op ++ b ++ fn ++ g ++ imm)))
    (hrow : rows32Fixed[k]? = some ⟨0xF8F00000, op ++ 0#3 ++ fn ++ 0#4 ++ 0#16,
      fun w => mk (w.extractLsb' 24 3) (w.extractLsb' 16 4) (w.extractLsb' 0 16)⟩)
    {b : BitVec 3} {g : BitVec 4} {imm : BitVec 16} : RoundTrips c (mk b g imm) := by
  have hword : (op ++ b ++ fn ++ g ++ imm) &&& (BitVec.allOnes 5 ++ 0#3 ++ BitVec.allOnes 4 ++ 0#4 ++ 0#16)
      = op ++ 0#3 ++ fn ++ 0#4 ++ 0#16 := by
    simp only [BitVec.and_append, BitVec.and_allOnes, BitVec.and_zero]
  refine roundTrips_word hc (henc b g imm) (mem_rows32_of_fixed hrow) hword ?_
  show mk _ _ _ = mk b g imm
  congr 1 <;> grind

end Layout32

/-! ### The layout of the coprocessor forms -/

theorem lowMask_toNat_lt : ∀ k : Fin 13, (lowMask k).toNat < 2 ^ k.val := by decide

theorem getLsbD_lowMask : ∀ k : Fin 13, ∀ j < 12, (lowMask k).getLsbD j = decide (j < k.val) := by decide

theorem and_lowMask {v : BitVec 12} {k : Fin 13} (hv : v.toNat < 2 ^ k.val) : v &&& lowMask k = v := by
  apply BitVec.eq_of_getLsbD_eq
  intro j hj
  rw [BitVec.getLsbD_and, getLsbD_lowMask k j hj]
  by_cases hk : j < k.val
  · simp [hk]
  · have high : v.getLsbD j = false := Nat.testBit_eq_false_of_lt (hv.trans_le (Nat.pow_le_pow_right (by decide) (by omega)))
    simp [high]

theorem placeAt_and {n : Nat} (u v : BitVec n) (pos : Nat) : placeAt (u &&& v) pos = placeAt u pos &&& placeAt v pos := by
  simp [placeAt, BitVec.setWidth_and, BitVec.shiftLeft_and_distrib]

/-- A field lies under its mask. -/
theorem placeAt_and_fieldMask {v : BitVec 12} {k : Fin 13} (hv : v.toNat < 2 ^ k.val) (pos : Nat) :
    placeAt v pos &&& fieldMask pos k = placeAt v pos := by
  rw [fieldMask, ← placeAt_and, and_lowMask hv]

/-- A field put in place inside the word is taken out again. -/
theorem setWidth_placeAt {v : BitVec 12} {k : Fin 13} (hv : v.toNat < 2 ^ k.val) {pos : Nat} (hpos : pos + k.val ≤ 32) :
    (placeAt v pos >>> pos).setWidth 12 = v := by
  have inside : v.toNat * 2 ^ pos < 2 ^ 32 :=
    calc v.toNat * 2 ^ pos < 2 ^ k.val * 2 ^ pos := Nat.mul_lt_mul_of_pos_right hv (Nat.two_pow_pos pos)
      _ = 2 ^ (pos + k.val) := by rw [← Nat.pow_add, Nat.add_comm]
      _ ≤ 2 ^ 32 := Nat.pow_le_pow_right (by decide) hpos
  have narrow : v.toNat % 2 ^ 32 = v.toNat := Nat.mod_eq_of_lt (v.isLt.trans (by decide))
  apply BitVec.eq_of_toNat_eq
  rw [placeAt, BitVec.toNat_setWidth, BitVec.toNat_ushiftRight, BitVec.toNat_shiftLeft, BitVec.toNat_setWidth, narrow,
    Nat.shiftLeft_eq, Nat.mod_eq_of_lt inside, Nat.shiftRight_eq_div_pow, Nat.mul_div_cancel _ (Nat.two_pow_pos pos),
    Nat.mod_eq_of_lt v.isLt]

/-- A word that holds nothing but `v` under the mask of a field reads as `v` there. -/
theorem fieldAt_eq {v : BitVec 12} {k : Fin 13} (hv : v.toNat < 2 ^ k.val) {pos : Nat} (hpos : pos + k.val ≤ 32) {w : Word}
    (h : w &&& fieldMask pos k = placeAt v pos) : fieldAt w pos k = v := by
  have mask : lowMask k = (fieldMask pos k >>> pos).setWidth 12 := (setWidth_placeAt (lowMask_toNat_lt k) hpos).symm
  calc fieldAt w pos k = (w >>> pos).setWidth 12 &&& (fieldMask pos k >>> pos).setWidth 12 := by rw [fieldAt, ← mask]
    _ = ((w &&& fieldMask pos k) >>> pos).setWidth 12 := by rw [BitVec.ushiftRight_and_distrib, BitVec.setWidth_and]
    _ = v := by rw [h, setWidth_placeAt hv hpos]

theorem extractLsb'_placeAt {n pos : Nat} (hpos : pos + 4 ≤ 32) (v : BitVec n) :
    (placeAt v pos).extractLsb' pos 4 = v.setWidth 4 := by
  apply BitVec.eq_of_getLsbD_eq
  intro j hj
  rw [BitVec.getLsbD_extractLsb', placeAt, BitVec.getLsbD_shiftLeft, BitVec.getLsbD_setWidth, BitVec.getLsbD_setWidth]
  simp [hj, show pos + j < 32 by omega, show j < 32 by omega]

/-- A word that holds nothing but `v` under the mask of a register field reads as `v` in that slice. -/
theorem extractLsb'_eq_of_fieldMask {v : BitVec 4} {pos : Nat} (hpos : pos + 4 ≤ 32) {w : Word}
    (h : w &&& fieldMask pos 4 = placeAt v pos) : w.extractLsb' pos 4 = v := by
  have mask : (fieldMask pos 4).extractLsb' pos 4 = BitVec.allOnes 4 := extractLsb'_placeAt hpos (lowMask 4)
  have value : (placeAt v pos).extractLsb' pos 4 = v := (extractLsb'_placeAt hpos v).trans (BitVec.setWidth_eq v)
  rw [← value, ← h, BitVec.extractLsb'_and, mask, BitVec.and_allOnes]

/-- The word made of parts, each a value and the mask it lies under. -/
def joined (parts : List (Word × Word)) : Word := parts.foldr (fun p w => p.1 ||| w) 0

/-- Parts that lie under their masks leave every other mask empty. -/
theorem joined_and_eq_zero {parts : List (Word × Word)} (hin : ∀ p ∈ parts, p.1 &&& p.2 = p.1) {m : Word}
    (hm : ∀ p ∈ parts, p.2 &&& m = 0) : joined parts &&& m = 0 := by
  induction parts with
  | nil => simp [joined]
  | cons p rest ih =>
    have head : p.1 &&& m = 0 := by
      rw [← hin p List.mem_cons_self, BitVec.and_assoc, hm p List.mem_cons_self]
      exact BitVec.and_zero
    have tail : joined rest &&& m = 0 :=
      ih (fun q hq => hin q (List.mem_cons_of_mem p hq)) (fun q hq => hm q (List.mem_cons_of_mem p hq))
    exact Machine.or_and_eq_zero head tail

/-- Parts under disjoint masks are each read back under their own. -/
theorem joined_and_mask {parts : List (Word × Word)} (hin : ∀ p ∈ parts, p.1 &&& p.2 = p.1)
    (hapart : (parts.map (·.2)).Pairwise (fun m m' => m &&& m' = 0)) : ∀ p ∈ parts, joined parts &&& p.2 = p.1 := by
  induction parts with
  | nil => simp
  | cons q rest ih =>
    obtain ⟨hq, hrest⟩ := List.pairwise_cons.mp hapart
    have hinRest : ∀ p ∈ rest, p.1 &&& p.2 = p.1 := fun p hp => hin p (List.mem_cons_of_mem q hp)
    have hqRest : ∀ p ∈ rest, q.2 &&& p.2 = 0 := fun p hp => hq p.2 (List.mem_map_of_mem hp)
    have split : ∀ m, joined (q :: rest) &&& m = q.1 &&& m ||| joined rest &&& m := fun m => by
      rw [joined, List.foldr_cons, BitVec.and_comm, BitVec.and_or_distrib_left, BitVec.and_comm m, BitVec.and_comm m, joined]
    intro p hp
    rcases List.mem_cons.mp hp with rfl | hp
    · have tail : joined rest &&& p.2 = 0 :=
        joined_and_eq_zero hinRest fun r hr => (BitVec.and_comm _ _).trans (hqRest r hr)
      rw [split, hin p List.mem_cons_self, tail]
      exact BitVec.or_zero
    · have head : q.1 &&& p.2 = 0 := by
        rw [← hin q List.mem_cons_self, BitVec.and_assoc, hqRest p hp]
        exact BitVec.and_zero
      rw [split, ih hinRest hrest p hp, head]
      exact BitVec.zero_or

/-- The part of `OpecpEncoding.wf` by which the fields can be read: constant bits and fields apart from each other, each field
inside the word. -/
structure OpecpEncoding.Readable (c : Encoding) (o : OpecpEncoding) : Prop where
  bits : o.pattern.bits &&& o.pattern.mask = o.pattern.bits
  cdst : o.cdstAt + 4 ≤ 32
  csrc : o.csrcAt + 4 ≤ 32
  cpid : o.cpidAt + c.cpidWidth.val ≤ 32
  inst : o.instAt + (12 - c.cpidWidth.val) ≤ 32
  apart : [o.pattern.mask, fieldMask o.cdstAt 4, fieldMask o.csrcAt 4, fieldMask o.cpidAt c.cpidWidth.val,
    fieldMask o.instAt (12 - c.cpidWidth.val)].Pairwise (fun x y => x &&& y = 0)

theorem OpecpEncoding.readable_of_wf {c : Encoding} {o : OpecpEncoding} (h : o.wf c = true) : o.Readable c := by
  simp only [OpecpEncoding.wf, Bool.and_eq_true, decide_eq_true_eq, beq_iff_eq] at h
  obtain ⟨⟨⟨⟨⟨⟨⟨-, hbits⟩, hcdst⟩, hcsrc⟩, hcpid⟩, hinst⟩, hapart⟩, -⟩ := h
  refine ⟨?_, hcdst, hcsrc, hcpid, hinst, hapart⟩
  calc o.pattern.bits &&& o.pattern.mask
      = (o.pattern.bits &&& o.pattern.mask) ||| (o.pattern.bits &&& ~~~o.pattern.mask) := by rw [hbits]; exact BitVec.or_zero.symm
    _ = o.pattern.bits := by rw [← BitVec.and_or_distrib_left, BitVec.or_not_self, BitVec.and_allOnes]

/-- The constant bits and the fields of a word with coprocessor fields, each with its mask. -/
def opecpParts (c : Encoding) (o : OpecpEncoding) (cprd cprs : BitVec 4) (inst cpid : BitVec 12) : List (Word × Word) :=
  [(o.pattern.bits, o.pattern.mask), (placeAt cprd o.cdstAt, fieldMask o.cdstAt 4), (placeAt cprs o.csrcAt, fieldMask o.csrcAt 4),
    (placeAt cpid o.cpidAt, fieldMask o.cpidAt c.cpidWidth.val), (placeAt inst o.instAt, fieldMask o.instAt (12 - c.cpidWidth.val))]

/-- A register number lies under the mask of its field. -/
theorem register_under_fieldMask (v : BitVec 4) (pos : Nat) : placeAt v pos &&& fieldMask pos 4 = placeAt v pos := by
  have wide : placeAt v pos = placeAt (v.setWidth 12) pos := by simp [placeAt]
  have small : (v.setWidth 12).toNat < 2 ^ 4 := by
    rw [BitVec.toNat_setWidth, Nat.mod_eq_of_lt (by omega)]
    exact v.isLt
  rw [wide]
  exact placeAt_and_fieldMask (k := 4) small pos

/-- What a row with coprocessor fields reads from a word. -/
structure OpecpEncoding.Reads (c : Encoding) (o : OpecpEncoding) (w : Word) (cprd cprs : BitVec 4) (inst cpid : BitVec 12) :
    Prop where
  pattern : w &&& o.pattern.mask = o.pattern.bits
  cdst : w.extractLsb' o.cdstAt 4 = cprd
  csrc : w.extractLsb' o.csrcAt 4 = cprs
  inst : fieldAt w o.instAt (12 - c.cpidWidth.val) = inst
  cpid : fieldAt w o.cpidAt c.cpidWidth.val = cpid

theorem OpecpEncoding.Readable.reads {c : Encoding} {o : OpecpEncoding} (h : o.Readable c) (cprd cprs : BitVec 4)
    {inst cpid : BitVec 12} (hfit : c.fieldsFit inst cpid = true) :
    o.Reads c (opecpWord o cprd cprs inst cpid) cprd cprs inst cpid := by
  obtain ⟨hcpid, hinst⟩ : cpid.toNat < 2 ^ c.cpidWidth.val ∧ inst.toNat < 2 ^ (12 - c.cpidWidth.val) := by
    simpa [Encoding.fieldsFit] using hfit
  have hword : opecpWord o cprd cprs inst cpid = joined (opecpParts c o cprd cprs inst cpid) := by
    simp [opecpWord, joined, opecpParts, BitVec.or_assoc]
  have hunder : ∀ p ∈ opecpParts c o cprd cprs inst cpid, p.1 &&& p.2 = p.1 := by
    simp only [opecpParts, List.forall_mem_cons]
    exact ⟨h.bits, register_under_fieldMask cprd _, register_under_fieldMask cprs _, placeAt_and_fieldMask hcpid _,
      placeAt_and_fieldMask (k := ⟨12 - c.cpidWidth.val, by omega⟩) hinst _, by simp⟩
  have hread := joined_and_mask hunder h.apart
  rw [← hword] at hread
  simp only [opecpParts, List.forall_mem_cons] at hread
  obtain ⟨hpattern, hcprd, hcprs, hcpidRead, hinstRead, -⟩ := hread
  exact ⟨hpattern, extractLsb'_eq_of_fieldMask h.cdst hcprd, extractLsb'_eq_of_fieldMask h.csrc hcprs,
    fieldAt_eq (k := ⟨12 - c.cpidWidth.val, by omega⟩) hinst h.inst hinstRead, fieldAt_eq hcpid h.cpid hcpidRead⟩

/-- An instruction whose word has a supplied layout is read back by the row of that layout. -/
theorem roundTrips_coprocessor {c : Encoding} (hc : c.wf = true) {o : OpecpEncoding} (ho : o.Readable c)
    {mk : BitVec 4 → BitVec 4 → BitVec 12 → BitVec 12 → Instr} {r : Row 32} (hr : r ∈ rows32 c)
    (hmask : r.mask = o.pattern.mask) (hbits : r.bits = o.pattern.bits)
    (hbuild : ∀ w, r.build w = mk (w.extractLsb' o.cdstAt 4) (w.extractLsb' o.csrcAt 4)
      (fieldAt w o.instAt (12 - c.cpidWidth.val)) (fieldAt w o.cpidAt c.cpidWidth.val))
    {cprd cprs : BitVec 4} {inst cpid : BitVec 12} (hfit : c.fieldsFit inst cpid = true)
    (henc : encode c (mk cprd cprs inst cpid) = some (.word (opecpWord o cprd cprs inst cpid))) :
    RoundTrips c (mk cprd cprs inst cpid) := by
  obtain ⟨hpattern, hcdst, hcsrc, hinst, hcpid⟩ := ho.reads cprd cprs hfit
  exact roundTrips_word hc henc hr (by rw [hmask, hbits, hpattern]) (by rw [hbuild, hcdst, hcsrc, hinst, hcpid])

/-- MVFCP and MVTCP as a layout: the fields where R302 and `CP_FIELDS` place them. -/
def transferLayout (c : Encoding) (bits : Word) : OpecpEncoding where
  pattern := { mask := copMask c, bits := bits }
  cdstAt := 24
  csrcAt := 16
  cpidAt := 16 - c.cpidWidth.val
  instAt := 0

/-- For every width of `cpid` the constant bits and the four fields of MVFCP and MVTCP are apart. -/
theorem transferLayout_masks_apart : ∀ k : Fin 13,
    [copMask { Encoding.standard with cpidWidth := k }, fieldMask 24 4, fieldMask 16 4, fieldMask (16 - k.val) k.val,
      fieldMask 0 (12 - k.val)].Pairwise (fun x y => x &&& y = 0) := by decide

theorem transferLayout_readable (c : Encoding) {bits : Word}
    (h : ∀ k : Fin 13, bits &&& copMask { Encoding.standard with cpidWidth := k } = bits) :
    (transferLayout c bits).Readable c where
  bits := h c.cpidWidth
  cdst := by simp [transferLayout]
  csrc := by simp [transferLayout]
  cpid := by simp only [transferLayout]; omega
  inst := by simp only [transferLayout]; omega
  apart := transferLayout_masks_apart c.cpidWidth

/-- The cells of the first halfword of MVFCP and MVTCP are the constant bits with two fields in place. -/
theorem append_eq_or_placeAt (op fn f g : BitVec 4) :
    op ++ f ++ fn ++ g ++ 0#16 = (op ++ 0#4 ++ fn ++ 0#4 ++ 0#16) ||| placeAt f 24 ||| placeAt g 16 := by
  have upper : ∀ v : BitVec 4, placeAt v 24 = 0#4 ++ v ++ 0#4 ++ 0#4 ++ 0#16 := by decide
  have lower : ∀ v : BitVec 4, placeAt v 16 = 0#4 ++ 0#4 ++ 0#4 ++ v ++ 0#16 := by decide
  rw [upper, lower]
  show op ++ f ++ fn ++ g ++ 0#16
    = (op ++ 0#4 ++ fn ++ 0#4 ++ 0#16) ||| (0#4 ++ f ++ 0#4 ++ 0#4 ++ 0#16) ||| (0#4 ++ 0#4 ++ 0#4 ++ g ++ 0#16)
  simp only [BitVec.or_append, BitVec.or_zero, BitVec.zero_or]

theorem transferLayout_word (c : Encoding) (op fn f g : BitVec 4) (inst cpid : BitVec 12) :
    (op ++ f ++ fn ++ g ++ 0#16) ||| copCells c inst cpid
      = opecpWord (transferLayout c (op ++ 0#4 ++ fn ++ 0#4 ++ 0#16)) f g inst cpid := by
  rw [append_eq_or_placeAt, copCells, ← BitVec.or_assoc, opecpWord, transferLayout]

theorem mem_rows32_of_cop {c : Encoding} {r : Row 32} {k : Nat} (h : (rows32Cop c)[k]? = some r) : r ∈ rows32 c := by
  simp [rows32, List.mem_of_getElem? h]

/-- MVFCP and MVTCP: the row of the same layout reads them back. -/
theorem roundTrips_transfer {c : Encoding} (hc : c.wf = true) {op fn : BitVec 4}
    {mk : BitVec 4 → BitVec 4 → BitVec 12 → BitVec 12 → Instr} (k : Nat)
    (henc : ∀ f g inst cpid, encode c (mk f g inst cpid) = some (.word ((op ++ f ++ fn ++ g ++ 0#16) ||| copCells c inst cpid)))
    (hrow : (rows32Cop c)[k]? = some ⟨copMask c, op ++ 0#4 ++ fn ++ 0#4 ++ 0#16,
      fun w => mk (w.extractLsb' 24 4) (w.extractLsb' 16 4) (instField c w) (cpidField c w)⟩)
    (hbits : ∀ k : Fin 13, (op ++ 0#4 ++ fn ++ 0#4 ++ 0#16 : Word) &&& copMask { Encoding.standard with cpidWidth := k }
      = op ++ 0#4 ++ fn ++ 0#4 ++ 0#16)
    {f g : BitVec 4} {inst cpid : BitVec 12} (hfit : c.fieldsFit inst cpid = true) : RoundTrips c (mk f g inst cpid) := by
  refine roundTrips_coprocessor hc (transferLayout_readable c hbits) (mem_rows32_of_cop hrow) rfl rfl (fun _ => rfl) hfit ?_
  rw [henc, transferLayout_word]

/-! ### Every instruction -/

/-- `imm1` of RAC and RACH, 1 or 2, is one more than the bit that is encoded (R106). -/
theorem imm1_eq {imm1 : Nat} (h : (imm1 == 1 || imm1 == 2) = true) : ∃ b : BitVec 1, imm1 = b.toNat + 1 := by
  simp only [Bool.or_eq_true, beq_iff_eq] at h
  rcases h with rfl | rfl
  · exact ⟨0, rfl⟩
  · exact ⟨1, rfl⟩

theorem roundTrips_of_wellFormed {c : Encoding} (hc : c.wf = true) (i : Instr) (hi : i.wellFormed c = true) : RoundTrips c i := by
  cases i with
  | ldInd dest src => exact Layout16.nibbles 42 (fun _ _ => rfl) rfl
  | ldPost dest src => exact Layout16.nibbles 44 (fun _ _ => rfl) rfl
  | ldDisp dest disp16 src => exact Layout32.nibblesHalf hc (mk := fun d s v => .ldDisp d v s) 34 (fun _ _ _ => rfl) rfl
  | ldbInd dest src => exact Layout16.nibbles 38 (fun _ _ => rfl) rfl
  | ldbDisp dest disp16 src => exact Layout32.nibblesHalf hc (mk := fun d s v => .ldbDisp d v s) 30 (fun _ _ _ => rfl) rfl
  | ldubInd dest src => exact Layout16.nibbles 39 (fun _ _ => rfl) rfl
  | ldubDisp dest disp16 src => exact Layout32.nibblesHalf hc (mk := fun d s v => .ldubDisp d v s) 31 (fun _ _ _ => rfl) rfl
  | ldhInd dest src => exact Layout16.nibbles 40 (fun _ _ => rfl) rfl
  | ldhDisp dest disp16 src => exact Layout32.nibblesHalf hc (mk := fun d s v => .ldhDisp d v s) 32 (fun _ _ _ => rfl) rfl
  | lduhInd dest src => exact Layout16.nibbles 41 (fun _ _ => rfl) rfl
  | lduhDisp dest disp16 src => exact Layout32.nibblesHalf hc (mk := fun d s v => .lduhDisp d v s) 33 (fun _ _ _ => rfl) rfl
  | lock dest src => exact Layout16.nibbles 43 (fun _ _ => rfl) rfl
  | stInd src1 src2 => exact Layout16.nibbles 34 (fun _ _ => rfl) rfl
  | stPreInc src1 src2 => exact Layout16.nibbles 36 (fun _ _ => rfl) rfl
  | stPreDec src1 src2 => exact Layout16.nibbles 37 (fun _ _ => rfl) rfl
  | stDisp src1 disp16 src2 => exact Layout32.nibblesHalf hc (mk := fun d s v => .stDisp d v s) 27 (fun _ _ _ => rfl) rfl
  | stbInd src1 src2 => exact Layout16.nibbles 30 (fun _ _ => rfl) rfl
  | stbPost src1 src2 => exact Layout16.nibbles 31 (fun _ _ => rfl) rfl
  | stbDisp src1 disp16 src2 => exact Layout32.nibblesHalf hc (mk := fun d s v => .stbDisp d v s) 25 (fun _ _ _ => rfl) rfl
  | sthInd src1 src2 => exact Layout16.nibbles 32 (fun _ _ => rfl) rfl
  | sthPost src1 src2 => exact Layout16.nibbles 33 (fun _ _ => rfl) rfl
  | sthDisp src1 disp16 src2 => exact Layout32.nibblesHalf hc (mk := fun d s v => .sthDisp d v s) 26 (fun _ _ _ => rfl) rfl
  | unlock src1 src2 => exact Layout16.nibbles 35 (fun _ _ => rfl) rfl
  | ld24 dest imm24 => exact Layout32.nibbleLow24 hc 44 (fun _ _ => rfl) rfl
  | ldi8 dest imm8 => exact Layout16.nibbleByte 69 (fun _ _ => rfl) rfl
  | ldi16 dest imm16 => exact Layout32.nibbleHalf hc 24 (fun _ _ => rfl) rfl
  | mv dest src => exact Layout16.nibbles 21 (fun _ _ => rfl) rfl
  | mvfc dest cr => exact Layout16.nibbles 22 (fun _ _ => rfl) rfl
  | mvtc src cr => exact Layout16.nibbles (mk := fun r s => .mvtc s r) 23 (fun _ _ => rfl) rfl
  | seth dest imm16 => exact Layout32.nibbleHalf hc 43 (fun _ _ => rfl) rfl
  | cmp src1 src2 => exact Layout16.nibbles 4 (fun _ _ => rfl) rfl
  | cmpeq src1 src2 => exact Layout16.nibbles 6 (fun _ _ => rfl) rfl
  | cmpi src imm16 => exact Layout32.lowNibbleHalf hc 0 (fun _ _ => rfl) rfl
  | cmpu src1 src2 => exact Layout16.nibbles 5 (fun _ _ => rfl) rfl
  | cmpui src imm16 => exact Layout32.lowNibbleHalf hc 1 (fun _ _ => rfl) rfl
  | cmpz src => exact Layout16.lowNibble 7 (fun _ => rfl) rfl
  | pcmpbz src => exact Layout16.lowNibble 16 (fun _ => rfl) rfl
  | add dest src => exact Layout16.nibbles 10 (fun _ _ => rfl) rfl
  | add3 dest src imm16 => exact Layout32.nibblesHalf hc 5 (fun _ _ _ => rfl) rfl
  | addi dest imm8 => exact Layout16.nibbleByte 53 (fun _ _ => rfl) rfl
  | addv dest src => exact Layout16.nibbles 8 (fun _ _ => rfl) rfl
  | addv3 dest src imm16 => exact Layout32.nibblesHalf hc 4 (fun _ _ _ => rfl) rfl
  | addx dest src => exact Layout16.nibbles 9 (fun _ _ => rfl) rfl
  | neg dest src => exact Layout16.nibbles 3 (fun _ _ => rfl) rfl
  | sub dest src => exact Layout16.nibbles 2 (fun _ _ => rfl) rfl
  | subv dest src => exact Layout16.nibbles 0 (fun _ _ => rfl) rfl
  | subx dest src => exact Layout16.nibbles 1 (fun _ _ => rfl) rfl
  | and dest src => exact Layout16.nibbles 12 (fun _ _ => rfl) rfl
  | and3 dest src imm16 => exact Layout32.nibblesHalf hc 6 (fun _ _ _ => rfl) rfl
  | not dest src => exact Layout16.nibbles 11 (fun _ _ => rfl) rfl
  | or dest src => exact Layout16.nibbles 14 (fun _ _ => rfl) rfl
  | or3 dest src imm16 => exact Layout32.nibblesHalf hc 8 (fun _ _ _ => rfl) rfl
  | xor dest src => exact Layout16.nibbles 13 (fun _ _ => rfl) rfl
  | xor3 dest src imm16 => exact Layout32.nibblesHalf hc 7 (fun _ _ _ => rfl) rfl
  | mul dest src => exact Layout16.nibbles 20 (fun _ _ => rfl) rfl
  | div dest src => exact Layout32.nibbles hc 9 (fun _ _ => rfl) rfl
  | divb dest src => exact Layout32.nibbles hc 11 (fun _ _ => rfl) rfl
  | divh dest src => exact Layout32.nibbles hc 10 (fun _ _ => rfl) rfl
  | divu dest src => exact Layout32.nibbles hc 12 (fun _ _ => rfl) rfl
  | divub dest src => exact Layout32.nibbles hc 14 (fun _ _ => rfl) rfl
  | divuh dest src => exact Layout32.nibbles hc 13 (fun _ _ => rfl) rfl
  | rem dest src => exact Layout32.nibbles hc 15 (fun _ _ => rfl) rfl
  | remb dest src => exact Layout32.nibbles hc 17 (fun _ _ => rfl) rfl
  | remh dest src => exact Layout32.nibbles hc 16 (fun _ _ => rfl) rfl
  | remu dest src => exact Layout32.nibbles hc 18 (fun _ _ => rfl) rfl
  | remub dest src => exact Layout32.nibbles hc 20 (fun _ _ => rfl) rfl
  | remuh dest src => exact Layout32.nibbles hc 19 (fun _ _ => rfl) rfl
  | sll dest src => exact Layout16.nibbles 19 (fun _ _ => rfl) rfl
  | sll3 dest src imm16 => exact Layout32.nibblesHalf hc 23 (fun _ _ _ => rfl) rfl
  | slli dest imm5 => exact Layout16.nibbleImm5 56 (fun _ _ => rfl) rfl
  | sra dest src => exact Layout16.nibbles 18 (fun _ _ => rfl) rfl
  | sra3 dest src imm16 => exact Layout32.nibblesHalf hc 22 (fun _ _ _ => rfl) rfl
  | srai dest imm5 => exact Layout16.nibbleImm5 55 (fun _ _ => rfl) rfl
  | srl dest src => exact Layout16.nibbles 17 (fun _ _ => rfl) rfl
  | srl3 dest src imm16 => exact Layout32.nibblesHalf hc 21 (fun _ _ _ => rfl) rfl
  | srli dest imm5 => exact Layout16.nibbleImm5 54 (fun _ _ => rfl) rfl
  | bc8 pcdisp8 => exact Layout16.lowByte 77 (fun _ => rfl) rfl
  | bc24 pcdisp24 => exact Layout32.low24 hc 47 (fun _ => rfl) rfl
  | bcl8 pcdisp8 => exact Layout16.lowByte 75 (fun _ => rfl) rfl
  | bcl24 pcdisp24 => exact Layout32.low24 hc 45 (fun _ => rfl) rfl
  | bl8 pcdisp8 => exact Layout16.lowByte 79 (fun _ => rfl) rfl
  | bl24 pcdisp24 => exact Layout32.low24 hc 49 (fun _ => rfl) rfl
  | bnc8 pcdisp8 => exact Layout16.lowByte 78 (fun _ => rfl) rfl
  | bnc24 pcdisp24 => exact Layout32.low24 hc 48 (fun _ => rfl) rfl
  | bncl8 pcdisp8 => exact Layout16.lowByte 76 (fun _ => rfl) rfl
  | bncl24 pcdisp24 => exact Layout32.low24 hc 46 (fun _ => rfl) rfl
  | bra8 pcdisp8 => exact Layout16.lowByte 80 (fun _ => rfl) rfl
  | bra24 pcdisp24 => exact Layout32.low24 hc 50 (fun _ => rfl) rfl
  | beq src1 src2 pcdisp16 => exact Layout32.nibblesHalf hc 35 (fun _ _ _ => rfl) rfl
  | bne src1 src2 pcdisp16 => exact Layout32.nibblesHalf hc 36 (fun _ _ _ => rfl) rfl
  | beqz src pcdisp16 => exact Layout32.lowNibbleHalf hc 37 (fun _ _ => rfl) rfl
  | bnez src pcdisp16 => exact Layout32.lowNibbleHalf hc 38 (fun _ _ => rfl) rfl
  | bltz src pcdisp16 => exact Layout32.lowNibbleHalf hc 39 (fun _ _ => rfl) rfl
  | bgez src pcdisp16 => exact Layout32.lowNibbleHalf hc 40 (fun _ _ => rfl) rfl
  | blez src pcdisp16 => exact Layout32.lowNibbleHalf hc 41 (fun _ _ => rfl) rfl
  | bgtz src pcdisp16 => exact Layout32.lowNibbleHalf hc 42 (fun _ _ => rfl) rfl
  | jc src => exact Layout16.lowNibble 26 (fun _ => rfl) rfl
  | jl src => exact Layout16.lowNibble 28 (fun _ => rfl) rfl
  | jmp src => exact Layout16.lowNibble 29 (fun _ => rfl) rfl
  | jnc src => exact Layout16.lowNibble 27 (fun _ => rfl) rfl
  | nop => exact roundTrips_half (k := 70) rfl rfl rfl (by decide) rfl
  | sc => exact roundTrips_half (k := 73) rfl rfl rfl (by decide) rfl
  | snc => exact roundTrips_half (k := 74) rfl rfl rfl (by decide) rfl
  | bclr bitpos disp16 src => exact Layout32.bitNibbleHalf hc (mk := fun b s v => .bclr b v s) 29 (fun _ _ _ => rfl) rfl
  | bset bitpos disp16 src => exact Layout32.bitNibbleHalf hc (mk := fun b s v => .bset b v s) 28 (fun _ _ _ => rfl) rfl
  | btst bitpos src => exact Layout16.bitNibble 15 (fun _ _ => rfl) rfl
  | setpsw imm8 => exact Layout16.lowByte 71 (fun _ => rfl) rfl
  | clrpsw imm8 => exact Layout16.lowByte 72 (fun _ => rfl) rfl
  | trap imm4 => exact Layout16.lowNibble 25 (fun _ => rfl) rfl
  | rte => exact roundTrips_half (k := 24) rfl rfl rfl (by decide) rfl
  | mulhi src1 src2 acc => exact Layout16.nibblesAcc (mk := fun d a s => .mulhi d s a) 45 (fun _ _ _ => rfl) rfl
  | mullo src1 src2 acc => exact Layout16.nibblesAcc (mk := fun d a s => .mullo d s a) 46 (fun _ _ _ => rfl) rfl
  | mulwhi src1 src2 => exact Layout16.nibbles 47 (fun _ _ => rfl) rfl
  | mulwlo src1 src2 => exact Layout16.nibbles 48 (fun _ _ => rfl) rfl
  | mulwu1 src1 src2 => exact Layout16.nibbles 61 (fun _ _ => rfl) rfl
  | machi src1 src2 acc => exact Layout16.nibblesAcc (mk := fun d a s => .machi d s a) 49 (fun _ _ _ => rfl) rfl
  | maclo src1 src2 acc => exact Layout16.nibblesAcc (mk := fun d a s => .maclo d s a) 50 (fun _ _ _ => rfl) rfl
  | macwhi src1 src2 => exact Layout16.nibbles 51 (fun _ _ => rfl) rfl
  | macwlo src1 src2 => exact Layout16.nibbles 52 (fun _ _ => rfl) rfl
  | maclh1 src1 src2 => exact Layout16.nibbles 63 (fun _ _ => rfl) rfl
  | macwu1 src1 src2 => exact Layout16.nibbles 62 (fun _ _ => rfl) rfl
  | msblo src1 src2 => exact Layout16.nibbles 64 (fun _ _ => rfl) rfl
  | sadd => exact roundTrips_half (k := 65) rfl rfl rfl (by decide) rfl
  | rac accd accs imm1 =>
    obtain ⟨b, rfl⟩ := imm1_eq hi
    exact Layout16.accs (op := 0b01010#5) (fn := 0b0010010#7) (last := 0#1) (mk := fun d e b => .rac d e (b.toNat + 1)) 60
      (fun _ _ _ => by simp [encode]) rfl
  | rach accd accs imm1 =>
    obtain ⟨b, rfl⟩ := imm1_eq hi
    exact Layout16.accs (op := 0b01010#5) (fn := 0b0010000#7) (last := 0#1) (mk := fun d e b => .rach d e (b.toNat + 1)) 59
      (fun _ _ _ => by simp [encode]) rfl
  | mvfachi dest accs => exact Layout16.nibbleAcc 66 (fun _ _ => rfl) rfl
  | mvfaclo dest accs => exact Layout16.nibbleAcc 67 (fun _ _ => rfl) rfl
  | mvfacmi dest accs => exact Layout16.nibbleAcc 68 (fun _ _ => rfl) rfl
  | mvtachi src accd => exact Layout16.nibbleAcc 57 (fun _ _ => rfl) rfl
  | mvtaclo src accd => exact Layout16.nibbleAcc 58 (fun _ _ => rfl) rfl
  | satb dest src => exact Layout32.nibbles hc 3 (fun _ _ => rfl) rfl
  | sath dest src => exact Layout32.nibbles hc 2 (fun _ _ => rfl) rfl
  | mvfcp dest cpr inst cpid => exact roundTrips_transfer hc 0 (fun _ _ _ _ => rfl) rfl (by decide) hi
  | mvtcp src cpr inst cpid => exact roundTrips_transfer hc 1 (fun _ _ _ _ => rfl) rfl (by decide) hi
  | opecp cprd cprs inst cpid =>
    obtain ⟨hsome, hfit⟩ : c.opecp.isSome = true ∧ c.fieldsFit inst cpid = true := by simpa [Instr.wellFormed] using hi
    obtain ⟨o, ho⟩ := Option.isSome_iff_exists.mp hsome
    have hwf : o.wf c = true := by simpa [Encoding.wf, ho] using hc
    exact roundTrips_coprocessor hc (OpecpEncoding.readable_of_wf hwf) (r := opecpRow c o) (by simp [rows32, ho]) rfl rfl
      (fun _ => rfl) hfit (by simp [encode, ho])

/-- Settles O1: each instruction's word has the constant bits of one row, whose fields are the operands. -/
theorem decodeEncodeRoundTrip : Obligations.DecodeEncodeRoundTrip :=
  fun _ i hc hi => roundTrips_of_wellFormed hc i hi

end Sys2Proof
end

section
/-! Transfers and the plain arithmetic and logic (`41_transfer.md`, `42_compare_arith_logic.md`): the instructions that compute one
value and write it to a register, then MVFC and MVTC, control register by control register (R164, R165). -/

namespace Sys2Proof.Machine

/-! ### One value into a general register -/

/-- The write of one register is the whole footprint; the value may be given in another form. -/
theorem setReg_writesReg {v w : Word} (len : Word) (s : State) (d : RegNum) (h : v = w) :
    WritesReg len s (finish len (.writes (setReg s d v)) s) d w := by
  subst h
  exact runsTo_finish_writes rfl (readReg_commit_slotOf s d v _)

/-! ### The results as integers modulo 2^32 -/

theorem add_eq_ofNat (a b : Word) : a + b = BitVec.ofNat 32 (a.toNat + b.toNat) := by
  simp [BitVec.ofNat_add]

theorem sub_eq_ofInt (a b : Word) : a - b = BitVec.ofInt 32 (a.toNat - b.toNat) := by
  bv_omega

theorem zero_sub_eq_ofInt (a : Word) : 0 - a = BitVec.ofInt 32 (-a.toNat) := by
  bv_omega

theorem sext_eq_ofInt {n : Nat} (v : BitVec n) : sext v = BitVec.ofInt 32 v.toInt := rfl

theorem zext_eq_ofNat {n : Nat} (v : BitVec n) : zext v = BitVec.ofNat 32 v.toNat :=
  (BitVec.ofNat_toNat 32 v).symm

theorem add_sext_eq_ofInt {n : Nat} (a : Word) (v : BitVec n) : a + sext v = BitVec.ofInt 32 (a.toNat + v.toInt) := by
  rw [BitVec.ofInt_add, BitVec.ofInt_natCast, BitVec.ofNat_toNat, BitVec.setWidth_eq, sext_eq_ofInt]

/-- An immediate in the high halfword counts 65536 times (R166). -/
theorem append_zero_eq_ofNat (v : Half) : v ++ 0#16 = BitVec.ofNat 32 (v.toNat * 65536) := by
  apply BitVec.eq_of_toNat_eq
  have hv := v.isLt
  rw [BitVec.toNat_append, BitVec.toNat_ofNat, BitVec.toNat_ofNat, Nat.zero_mod, Nat.or_zero, Nat.shiftLeft_eq]
  omega

/-- Settles O11: each instruction writes one register; its value is the bitwise one, or the sum or difference modulo 2^32. -/
theorem registerAluResults : Obligations.RegisterAluResults := by
  intro s d r
  exact ⟨setReg_writesReg 2 s d (add_eq_ofNat _ _), setReg_writesReg 2 s d (sub_eq_ofInt _ _),
    setReg_writesReg 2 s d (zero_sub_eq_ofInt _), setReg_writesReg 2 s d rfl, setReg_writesReg 2 s d rfl,
    setReg_writesReg 2 s d rfl, setReg_writesReg 2 s d rfl, setReg_writesReg 2 s d rfl⟩

/-- Settles O12: each instruction writes one register; a signed immediate is an integer modulo 2^32, an unsigned one a natural
number. -/
theorem immediateResults : Obligations.ImmediateResults := by
  intro s d r imm8 imm16 imm24
  have himm := zext_eq_ofNat imm16
  exact ⟨setReg_writesReg 4 s d (add_sext_eq_ofInt _ imm16), setReg_writesReg 2 s d (add_sext_eq_ofInt _ imm8),
    setReg_writesReg 4 s d (congrArg (readReg s r &&& ·) himm), setReg_writesReg 4 s d (congrArg (readReg s r ||| ·) himm),
    setReg_writesReg 4 s d (congrArg (readReg s r ^^^ ·) himm), setReg_writesReg 2 s d (sext_eq_ofInt imm8),
    setReg_writesReg 4 s d (sext_eq_ofInt imm16), setReg_writesReg 4 s d (zext_eq_ofNat imm24),
    setReg_writesReg 4 s d (append_zero_eq_ofNat imm16)⟩

/-! ### Reserved control register numbers -/

theorem reservedControl_of_refused {s : State} (h : s.platform.reservedControl = .refused) (cr : BitVec 4) (ok : Word → Action) :
    reservedControl s cr ok = .stops (.refuse (.reservedControlRegister cr)) := by
  simp [reservedControl, h]

theorem reservedControl_of_raises {s : State} {ev : Event} (h : s.platform.reservedControl = .raises ev) (cr : BitVec 4)
    (ok : Word → Action) : reservedControl s cr ok = .raises ev := by
  simp [reservedControl, h]

theorem reservedControl_of_constant {s : State} {v : Word} (h : s.platform.reservedControl = .constant v) (cr : BitVec 4)
    (ok : Word → Action) : reservedControl s cr ok = ok v := by
  simp [reservedControl, h]

/-- An instruction that leaves a reserved number to the platform does what `RESERVED_CR_POLICY` says (R23, D14, log 10). -/
theorem reservedControl_outcome {len : Word} {s : State} {cr : BitVec 4} {ok : Word → Action} {o : Result} {post : Word → Prop}
    (ho : o = finish len (reservedControl s cr ok) s) (hok : ∀ v, o = finish len (ok v) s → post v) :
    (s.platform.reservedControl = .refused → o = .refused (.reservedControlRegister cr))
      ∧ (∀ ev, s.platform.reservedControl = .raises ev → Enters ev len s o)
      ∧ ∀ v, s.platform.reservedControl = .constant v → post v := by
  refine ⟨fun h => ?_, fun ev h => ?_, fun v h => hok v ?_⟩
  · rw [ho, reservedControl_of_refused h]
    rfl
  · rw [ho, reservedControl_of_raises h]
    exact enters_finish_raises ev len s
  · rw [ho, reservedControl_of_constant h]

/-- The numbers that name no control register (R23). -/
theorem toNat_of_reserved {cr : BitVec 4} (h : cr = 4 ∨ 7 ≤ cr.toNat) : cr.toNat = 4 ∨ 7 ≤ cr.toNat :=
  h.imp_left (congrArg BitVec.toNat)

theorem readControl_of_reserved {cr : BitVec 4} (h : cr = 4 ∨ 7 ≤ cr.toNat) (s : State) : readControl s cr = none := by
  have hcr := toNat_of_reserved h
  unfold readControl
  split
  case h_7 => rfl
  all_goals omega

theorem writeControl_of_reserved {cr : BitVec 4} (h : cr = 4 ∨ 7 ≤ cr.toNat) (v : Word) (s : State) :
    writeControl cr v s = reservedControl s cr (fun _ => .writes {}) := by
  have hcr := toNat_of_reserved h
  unfold writeControl
  split
  case h_7 => rfl
  all_goals omega

/-! ### The bits of EVB -/

/-- The writable bits of EVB (R31). -/
theorem getLsbD_evbMask (i : Nat) : (0x7FFF0000 : Word).getLsbD i = decide (16 ≤ i ∧ i ≤ 30) := by
  by_cases hi : i < 32
  · have bits : ∀ j < 32, (0x7FFF0000 : Word).getLsbD j = decide (16 ≤ j ∧ j ≤ 30) := by decide
    exact bits i hi
  · rw [BitVec.getLsbD_of_ge _ _ (by omega), decide_eq_false (by omega)]

theorem getLsbD_evbCut (v : Word) (i : Nat) : (v &&& 0x7FFF0000).getLsbD i = (decide (16 ≤ i ∧ i ≤ 30) && v.getLsbD i) := by
  rw [BitVec.getLsbD_and, getLsbD_evbMask, Bool.and_comm]

theorem getLsbD_atBit (b : Bool) {i : Nat} (hi : i < 32) :
    (if b then (0x80000000 : Word) else 0).getLsbD i = (decide (i = 31) && b) := by
  have bits : ∀ j < 32, (0x80000000 : Word).getLsbD j = decide (j = 31) := by decide
  cases b
  · simp
  · exact (bits i hi).trans (Bool.and_true _).symm

/-- EVB reads as AT, then its writable bits, then zeros (R31). -/
theorem getLsbD_evbRead (s : State) {i : Nat} (hi : i < 32) :
    (evbRead s).getLsbD i = if i = 31 then s.platform.atBit else decide (16 ≤ i) && s.evb.getLsbD i := by
  rw [evbRead, BitVec.getLsbD_or, getLsbD_atBit _ hi, getLsbD_evbCut]
  by_cases h31 : i = 31
  · simp [h31]
  · have htop : i ≤ 30 := by omega
    simp [h31, htop]

/-! ### MVFC -/

theorem exec_mvfc (d : RegNum) (cr : BitVec 4) (s : State) : exec (.mvfc d cr) s = finish 2 (mvfcAction d cr s) s := rfl

theorem exec_mvfc_of_readControl {s : State} {cr : BitVec 4} {v : Word} (h : readControl s cr = some v) (d : RegNum) :
    exec (.mvfc d cr) s = finish 2 (.writes (setReg s d v)) s := by
  simp only [exec_mvfc, mvfcAction, h]

theorem exec_mvfc_of_reserved {cr : BitVec 4} (h : cr = 4 ∨ 7 ≤ cr.toNat) (d : RegNum) (s : State) :
    exec (.mvfc d cr) s = finish 2 (reservedControl s cr (fun v => .writes (setReg s d v))) s := by
  simp only [exec_mvfc, mvfcAction, readControl_of_reserved h]

/-- A number that names a control register is read as it stands, in either mode (R164). -/
theorem mvfc_writesReg {s : State} {cr : BitVec 4} {v : Word} (h : readControl s cr = some v) (d : RegNum) :
    WritesReg 2 s (exec (.mvfc d cr) s) d v := by
  rw [exec_mvfc_of_readControl h]
  exact setReg_writesReg 2 s d rfl

/-- Settles O35: a named register is read as it stands, EVB bit by bit; the others are left to the platform. -/
theorem moveFromControl : Obligations.MoveFromControl := by
  intro s d cr
  refine ⟨mvfc_writesReg rfl d, mvfc_writesReg rfl d, mvfc_writesReg rfl d, mvfc_writesReg rfl d, ?evb, mvfc_writesReg rfl d,
    fun hcr => ?reserved⟩
  case evb =>
    have hread : WritesReg 2 s (exec (.mvfc d 5) s) d (evbRead s) := mvfc_writesReg rfl d
    exact hread.imp fun t ht i hi => ht ▸ getLsbD_evbRead s hi
  case reserved =>
    exact reservedControl_outcome (exec_mvfc_of_reserved hcr d s) fun v ho => ho ▸ setReg_writesReg 2 s d rfl

/-! ### MVTC -/

/-- Where the whole PSW may be written, so may its bit C. -/
theorem Frame.of_psw {f : Footprint} {s t : State} {c : Bool} (h : Frame { f with cond := c } s t) (hpsw : f.psw = true) :
    Frame f s t where
  slots := h.slots
  psw hf := by simp [hpsw] at hf
  cond hf := by simp [hpsw] at hf
  evb := h.evb
  bpc := h.bpc
  acc0 := h.acc0
  acc1 := h.acc1
  lock := h.lock
  mem := h.mem
  written := h.written
  cop := h.cop
  device := h.device
  draws := h.draws
  inputs := h.inputs
  platform := h.platform

/-- Writing to C the value it has changes nothing. -/
theorem withCond_self (p : Word) : withCond p (psw_c p) = p := by
  apply BitVec.eq_of_getLsbD_eq
  intro i _
  by_cases hi : i = 0
  · subst hi
    exact psw_c_withCond p _
  · exact getLsbD_withCond_of_ne p _ hi

/-- A write of the whole PSW, C included, runs on with the PSW as the only footprint. -/
theorem runsTo_write_psw (len : Word) (s : State) (p : Word) :
    RunsTo len { psw := true } s (finish len (.writes { psw := some p, cond := some (psw_c p) }) s) (fun t => t.psw = p) := by
  have hframe := frame_commit { psw := some p, cond := some (psw_c p) } (s.pc + len) s
  exact ⟨_, rfl, rfl, hframe.of_psw (c := true) rfl, withCond_self p⟩

/-- A write of the whole PSW that does not switch PM on outside the user space goes on (R373, D32). -/
theorem checkedPm_of_allowed {s : State} {new : Word} (h : ¬ (psw_pm new = true ∧ s.pc.getLsbD 31 = true)) (act : Action) :
    checkedPm s new act = act := by
  refine if_neg fun hbad => h ?_
  simp only [inUserSpace, Bool.not_not, Bool.and_eq_true] at hbad
  obtain ⟨⟨-, hnew⟩, hpc⟩ := hbad
  exact ⟨hnew, hpc⟩

/-- A write of the whole PSW that switches PM from 0 to 1 outside the user space is refused (R373, D32). -/
theorem checkedPm_of_switch {s : State} {new : Word} (hsupervisor : userMode s = false) (hnew : psw_pm new = true)
    (hpc : s.pc.getLsbD 31 = true) (act : Action) : checkedPm s new act = .stops (.refuse .pmChangeOutsideUserSpace) := by
  have hold : psw_pm s.psw = false := hsupervisor
  simp [checkedPm, inUserSpace, hold, hnew, hpc]

/-- PM and C are implemented bits, so MVTC writes them as they stand (R24). -/
theorem psw_pm_and_mask (v : Word) : psw_pm (v &&& pswMask) = v.getLsbD 3 := by
  simp [psw_pm, pswMask]

theorem psw_c_and_mask (v : Word) : psw_c (v &&& pswMask) = psw_c v := by
  simp [psw_c, pswMask]

theorem exec_mvtc_of_supervisor {s : State} (h : userMode s = false) (r : RegNum) (cr : BitVec 4) :
    exec (.mvtc r cr) s = finish 2 (writeControl cr (readReg s r) s) s :=
  congrArg (finish 2 · s) (privileged_of_supervisor h _)

theorem writeControl_psw (v : Word) (s : State) :
    writeControl 0 v s
      = checkedPm s (v &&& pswMask) (.writes { psw := some (v &&& pswMask), cond := some (psw_c (v &&& pswMask)) }) := by
  rw [psw_c_and_mask]
  rfl

/-- EVB takes its writable bits the first time (R32, R394). -/
theorem writeControl_evb_of_unwritten {s : State} (h : s.evbWritten = false) (v : Word) :
    writeControl 5 v s = .writes { evb := some (v &&& 0x7FFF0000) } :=
  if_neg (by simp [h])

/-- A second write of EVB is refused (D19). -/
theorem writeControl_evb_of_written {s : State} (h : s.evbWritten = true) (v : Word) :
    writeControl 5 v s = .stops (.refuse .secondEvbWrite) :=
  if_pos h

/-- Settles O36: past the PIE check each control register is written in its own way; the numbers that name none are left to the
platform. -/
theorem moveToControl : Obligations.MoveToControl := by
  intro s r cr hsupervisor
  simp only [exec_mvtc_of_supervisor hsupervisor]
  refine ⟨fun hallowed => ?psw, runsTo_finish_writes rfl trivial, runsTo_finish_writes rfl rfl, runsTo_finish_writes rfl rfl,
    fun hfirst => ?evb, runsTo_finish_writes rfl rfl, fun hagain => ?evbAgain, fun hnew hpc => ?pmSwitch, fun hcr => ?reserved⟩
  case psw =>
    rw [writeControl_psw, checkedPm_of_allowed (by rwa [psw_pm_and_mask])]
    exact runsTo_write_psw 2 s _
  case evb =>
    rw [writeControl_evb_of_unwritten hfirst]
    exact runsTo_finish_writes rfl ⟨Bool.or_true _, getLsbD_evbCut _⟩
  case evbAgain =>
    rw [writeControl_evb_of_written hagain]
    rfl
  case pmSwitch =>
    rw [writeControl_psw, checkedPm_of_switch hsupervisor ((psw_pm_and_mask _).trans hnew) hpc]
    rfl
  case reserved =>
    rw [writeControl_of_reserved hcr]
    exact reservedControl_outcome rfl fun v ho => ho ▸ runsTo_finish_writes rfl trivial

end Sys2Proof.Machine
end

section
/-! Comparisons and the arithmetic that writes C (`42_compare_arith_logic.md`): what each test of the model says of the operands as
integers, then the instructions that write C alone and those that write a register and C. -/

namespace Sys2Proof.Machine

/-! ### Comparisons of integers -/

theorem lessSigned_iff (a b : Word) : lessSigned a b = true ↔ a.toInt < b.toInt := BitVec.slt_iff_toInt_lt

theorem lessUnsigned_iff (a b : Word) : lessUnsigned a b = true ↔ a.toNat < b.toNat := BitVec.ult_iff_toNat_lt

/-- Sign extension keeps the integer (R9). -/
theorem toInt_sext {n : Nat} (h : n ≤ 32) (v : BitVec n) : (sext v).toInt = v.toInt := BitVec.toInt_signExtend_of_le h

theorem beq_zero_iff_toNat {n : Nat} (v : BitVec n) : (v == 0) = true ↔ v.toNat = 0 := by
  rw [beq_iff_eq, BitVec.toNat_eq]
  rfl

theorem getLsbD_iff_div_mod {n : Nat} (v : BitVec n) (i : Nat) : v.getLsbD i = true ↔ v.toNat / 2 ^ i % 2 = 1 := by
  rw [← BitVec.testBit_toNat, Nat.testBit_eq_decide_div_mod_eq, decide_eq_true_iff]

theorem byte_beq_zero_iff (v : Word) (k : Nat) : (v.extractLsb' (8 * k) 8 == 0) = true ↔ v.toNat / 256 ^ k % 256 = 0 := by
  rw [beq_zero_iff_toNat, BitVec.extractLsb'_toNat, Nat.shiftRight_eq_div_pow, Nat.pow_mul]

/-- The four packed bytes, byte `k` counting `256 ^ k` (R177). -/
theorem anyByteZero_iff (v : Word) : anyByteZero v = true ↔ ∃ k, k < 4 ∧ v.toNat / 256 ^ k % 256 = 0 := by
  have bytes : anyByteZero v = true ↔ ∃ k, k < 4 ∧ (v.extractLsb' (8 * k) 8 == 0) = true := by
    simp only [anyByteZero, Bool.or_eq_true, Nat.exists_lt_succ_right, Nat.not_lt_zero, false_and, exists_false, false_or]
    tauto
  simp only [bytes, byte_beq_zero_iff]

/-! ### Instructions that write C alone -/

/-- The write of C is the whole footprint; its value may be given as a proposition. -/
theorem setCond_writesCond {c : Bool} {p : Prop} [Decidable p] (len : Word) (s : State) (h : c = true ↔ p) :
    WritesCond len s (finish len (.writes (setCond c)) s) (decide p) := by
  have hc : c = decide p := Bool.eq_iff_iff.mpr (h.trans decide_eq_true_iff.symm)
  rw [← hc]
  exact runsTo_finish_writes rfl (psw_c_withCond s.psw c)

/-- Settles O14: each instruction writes C alone; its test is the comparison of integers, of bytes or of one bit. -/
theorem compareResults : Obligations.CompareResults := by
  intro s a b imm16 bitpos
  have himm : lessSigned (readReg s a) (sext imm16) = true ↔ (readReg s a).toInt < imm16.toInt := by
    rw [lessSigned_iff, toInt_sext (by omega)]
  exact ⟨setCond_writesCond 2 s (lessSigned_iff _ _), setCond_writesCond 4 s himm, setCond_writesCond 2 s (lessUnsigned_iff _ _),
    setCond_writesCond 4 s (lessUnsigned_iff _ (sext imm16)), setCond_writesCond 2 s beq_iff_eq,
    setCond_writesCond 2 s (beq_zero_iff_toNat _), setCond_writesCond 2 s (anyByteZero_iff _),
    setCond_writesCond 2 s (getLsbD_iff_div_mod _ (bitIndex bitpos))⟩

/-! ### Instructions that write one register and C -/

/-- A write of C keeps SM, so the register written is the one read (R22). -/
theorem readReg_commit_setRegCond (s : State) (d : RegNum) (v next : Word) (c : Bool) :
    readReg (commit (setRegCond s d v c) next s) d = v := by
  have hsm : psw_sm (withCond s.psw c) = psw_sm s.psw := getLsbD_withCond_of_ne s.psw c (by decide)
  have hslot : slotOf (commit (setRegCond s d v c) next s) d = slotOf s d := by
    simp [slotOf, setRegCond, commitPsw, hsm]
  rw [readReg, hslot, readSlot_commit]
  exact readSlot_writeSlot_same s _ v

/-- The writes of one register and of C are the whole footprint; `post` speaks of the two values. -/
theorem setRegCond_runsTo {len : Word} {s : State} {d : RegNum} {v : Word} {c : Bool} {post : Word → Bool → Prop} (h : post v c) :
    RunsTo len { slots := [slotOf s d], cond := true } s (finish len (.writes (setRegCond s d v c)) s)
      (fun t => post (readReg t d) (psw_c t.psw)) := by
  apply runsTo_finish_writes (e := setRegCond s d v c) rfl
  have hc : psw_c (commit (setRegCond s d v c) (s.pc + len) s).psw = c := psw_c_withCond s.psw c
  rwa [readReg_commit_setRegCond, hc]

/-! ### Signed overflow -/

/-- The sign test of R170 is the overflow of the exact signed sum. -/
theorem addOverflow_eq_saddOverflow (a b : Word) : addOverflow a b (a + b) = a.saddOverflow b := by
  rw [BitVec.saddOverflow_eq]
  rfl

theorem subOverflow_eq_ssubOverflow (a b : Word) : subOverflow a b (a - b) = a.ssubOverflow b := by
  rw [BitVec.ssubOverflow_eq]
  simp only [subOverflow, BitVec.msb_eq_getLsbD_last]
  cases a.getLsbD 31 <;> cases b.getLsbD 31 <;> simp

/-- An integer outside the signed 32-bit range is the value of no word. -/
theorem toInt_ne_of_outOfRange {v : Word} {x : Int} (h : x ≥ 2 ^ 31 ∨ x < -2 ^ 31) : v.toInt ≠ x := by
  have hlow := BitVec.le_two_mul_toInt (x := v)
  have hhigh := BitVec.two_mul_toInt_lt (x := v)
  omega

theorem addOverflow_iff (a b : Word) : addOverflow a b (a + b) = true ↔ (a + b).toInt ≠ a.toInt + b.toInt := by
  rw [addOverflow_eq_saddOverflow]
  constructor
  · intro hover
    exact toInt_ne_of_outOfRange (by simpa [BitVec.saddOverflow] using hover)
  · exact fun hne => by_contra fun hfits => hne (BitVec.toInt_add_of_not_saddOverflow hfits)

theorem subOverflow_iff (a b : Word) : subOverflow a b (a - b) = true ↔ (a - b).toInt ≠ a.toInt - b.toInt := by
  rw [subOverflow_eq_ssubOverflow]
  constructor
  · intro hover
    exact toInt_ne_of_outOfRange (by simpa [BitVec.ssubOverflow] using hover)
  · exact fun hne => by_contra fun hfits => hne (BitVec.toInt_sub_of_not_ssubOverflow hfits)

/-- Settles O15: the register and C are written together, and the sign test says that the exact signed result does not fit. -/
theorem overflowArithmetic : Obligations.OverflowArithmetic := by
  intro s d r imm16
  have himm := addOverflow_iff (readReg s r) (sext imm16)
  rw [toInt_sext (by omega) imm16] at himm
  exact ⟨setRegCond_runsTo (post := fun v c => v = _ ∧ (c = true ↔ v.toInt ≠ _)) ⟨rfl, addOverflow_iff _ _⟩,
    setRegCond_runsTo (post := fun v c => v = _ ∧ (c = true ↔ v.toInt ≠ _)) ⟨rfl, himm⟩,
    setRegCond_runsTo (post := fun v c => v = _ ∧ (c = true ↔ v.toInt ≠ _)) ⟨rfl, subOverflow_iff _ _⟩⟩

/-! ### Carry and borrow -/

theorem toNat_boolWord (c : Bool) : (boolWord c).toNat = c.toNat := by
  cases c <;> rfl

/-- The sum modulo 2^32 and its carry make up the exact sum (R183). -/
theorem toNat_add_carryOut (a b : Word) (c : Bool) :
    (a + b + boolWord c).toNat + (carryOut a b c).toNat * 2 ^ 32 = a.toNat + b.toNat + c.toNat := by
  have hc := c.toNat_le
  rw [BitVec.toNat_add, BitVec.toNat_add, toNat_boolWord, carryOut]
  by_cases hcarry : 2 ^ 32 ≤ a.toNat + b.toNat + c.toNat
  · rw [decide_eq_true hcarry, Bool.toNat_true]
    omega
  · rw [decide_eq_false hcarry, Bool.toNat_false]
    omega

/-- The difference modulo 2^32 and its borrow make up the exact difference (R187). -/
theorem toNat_sub_borrowOut (a b : Word) (c : Bool) :
    ((a - b - boolWord c).toNat : Int) - (borrowOut a b c).toNat * 2 ^ 32 = a.toNat - b.toNat - c.toNat := by
  have hc := c.toNat_le
  rw [BitVec.toNat_sub, BitVec.toNat_sub, toNat_boolWord, borrowOut]
  by_cases hborrow : a.toNat < b.toNat + c.toNat
  · rw [decide_eq_true hborrow, Bool.toNat_true]
    omega
  · rw [decide_eq_false hborrow, Bool.toNat_false]
    omega

/-- Settles O16: the register and C are written together, and C is the carry or borrow of the exact result. -/
theorem carryArithmetic : Obligations.CarryArithmetic := by
  intro s d r
  exact ⟨setRegCond_runsTo (post := fun v c => v.toNat + c.toNat * 2 ^ 32 = _) (toNat_add_carryOut _ _ _),
    setRegCond_runsTo (post := fun v c => (v.toNat : Int) - c.toNat * 2 ^ 32 = _) (toNat_sub_borrowOut _ _ _)⟩

end Sys2Proof.Machine
end

section
/-! Multiplication, division, remainder and shifts (`43_muldiv_shift.md`): shift counts and shifts as integers, MUL, then the
division family: a zero divisor (R214), the quotients and remainders as integers, the narrowed dividends (R200), the one overflow. -/

namespace Sys2Proof.Machine

/-! ### Shifts -/

theorem shiftCount_eq_mod (v : Word) : shiftCount v = v.toNat % 32 := by
  rw [shiftCount, BitVec.extractLsb'_toNat, Nat.shiftRight_zero]

theorem shiftCount16_eq_mod (v : BitVec 16) : shiftCount16 v = v.toNat % 32 := by
  rw [shiftCount16, BitVec.extractLsb'_toNat, Nat.shiftRight_zero]

/-- An arithmetic shift divides the signed value and rounds down. -/
theorem sshiftRight_eq_ofInt (v : Word) {n k : Nat} (h : n = k) : v.sshiftRight n = BitVec.ofInt 32 (v.toInt / 2 ^ k) := by
  rw [h, BitVec.sshiftRight, Int.shiftRight_eq_div_pow, Nat.cast_pow, Nat.cast_ofNat]

/-- A logical shift divides the unsigned value. -/
theorem ushiftRight_eq_ofNat (v : Word) {n k : Nat} (h : n = k) : v >>> n = BitVec.ofNat 32 (v.toNat / 2 ^ k) := by
  rw [h, ← Nat.shiftRight_eq_div_pow, ← BitVec.toNat_ushiftRight, BitVec.ofNat_toNat, BitVec.setWidth_eq]

/-- Settles O13: each shift writes one register; the count is a residue modulo 32, and a shift right is a division by a power of 2. -/
theorem shiftResults : Obligations.ShiftResults := by
  intro s d r imm5 imm16
  have hreg := shiftCount_eq_mod (readReg s r)
  have himm := shiftCount16_eq_mod imm16
  exact ⟨setReg_writesReg 2 s d (congrArg (readReg s d <<< ·) hreg), setReg_writesReg 4 s d (congrArg (readReg s r <<< ·) himm),
    setReg_writesReg 2 s d rfl, setReg_writesReg 2 s d (sshiftRight_eq_ofInt _ hreg),
    setReg_writesReg 4 s d (sshiftRight_eq_ofInt _ himm), setReg_writesReg 2 s d (sshiftRight_eq_ofInt _ rfl),
    setReg_writesReg 2 s d (ushiftRight_eq_ofNat _ hreg), setReg_writesReg 4 s d (ushiftRight_eq_ofNat _ himm),
    setReg_writesReg 2 s d (ushiftRight_eq_ofNat _ rfl)⟩

/-! ### Multiplication -/

/-- The low word of a product is that of the signed product (R201). -/
theorem mul_eq_ofInt (a b : Word) : a * b = BitVec.ofInt 32 (a.toInt * b.toInt) := by
  rw [BitVec.ofInt_mul, BitVec.ofInt_toInt, BitVec.ofInt_toInt]

/-- Settles O17: the effect of MUL names the destination, both accumulators and the draw, and the destination receives the product. -/
theorem multiplyResult : Obligations.MultiplyResult := by
  intro s d r
  refine runsTo_finish_writes rfl ?_
  rw [readReg_commit rfl rfl, commitRegs_cons, commitRegs_nil, readSlot_writeSlot_same]
  exact mul_eq_ofInt _ _

/-! ### The division family: the divisor -/

/-- A zero divisor: nothing is written (R214). -/
theorem divide_runsTo_of_zero {s : State} {r : RegNum} (hr : readReg s r = 0) (d : RegNum) (quot : Word → Word) :
    RunsTo 4 {} s (finish 4 (divideAction s d r quot) s) (fun _ => True) := by
  rw [divideAction, if_pos hr]
  exact runsTo_finish_writes rfl trivial

/-- Any other divisor: the result is written to the destination. -/
theorem divide_writesReg {s : State} {r : RegNum} {quot : Word → Word} {v : Word} (hr : readReg s r ≠ 0) (d : RegNum)
    (hquot : quot (readReg s r) = v) : WritesReg 4 s (finish 4 (divideAction s d r quot) s) d v := by
  rw [divideAction, if_neg hr]
  exact setReg_writesReg 4 s d hquot

/-- The result as the signed integer it is. -/
theorem divide_runsTo_toInt {s : State} {r : RegNum} {quot : Word → Word} {x : Int} (hr : readReg s r ≠ 0) (d : RegNum)
    (hquot : (quot (readReg s r)).toInt = x) :
    RunsTo 4 { slots := [slotOf s d] } s (finish 4 (divideAction s d r quot) s) (fun t => (readReg t d).toInt = x) :=
  (divide_writesReg hr d rfl).imp fun _ ht => (congrArg BitVec.toInt ht).trans hquot

/-! ### Narrowed dividends -/

theorem signedByte_eq_sext (v : Word) : signedByte v = sext (v.setWidth 8) := by
  rw [signedByte, BitVec.setWidth_eq_extractLsb' (by omega)]

theorem signedHalf_eq_sext (v : Word) : signedHalf v = sext (v.setWidth 16) := by
  rw [signedHalf, BitVec.setWidth_eq_extractLsb' (by omega)]

theorem toNat_unsignedByte (v : Word) : (unsignedByte v).toNat = v.toNat % 2 ^ 8 := by
  rw [unsignedByte, zext, BitVec.toNat_setWidth_of_le (by omega), BitVec.extractLsb'_toNat, Nat.shiftRight_zero]

theorem toNat_unsignedHalf (v : Word) : (unsignedHalf v).toNat = v.toNat % 2 ^ 16 := by
  rw [unsignedHalf, zext, BitVec.toNat_setWidth_of_le (by omega), BitVec.extractLsb'_toNat, Nat.shiftRight_zero]

/-- A narrowed dividend is never the least integer, so its quotient always fits (R203). -/
theorem sext_ne_least {n : Nat} (hn : n < 32) (v : BitVec n) : sext v ≠ 0x80000000 := by
  intro heq
  have hvalue : v.toInt = -2 ^ 31 := (toInt_sext hn.le v).symm.trans (congrArg BitVec.toInt heq)
  have hlow := BitVec.le_two_mul_toInt (x := v)
  have hpow : (2 : Int) ^ n ≤ 2 ^ 31 := pow_le_pow_right₀ (by decide) (by omega)
  omega

/-! ### Signed quotients and remainders -/

/-- But for -2^31 by -1 the exact quotient fits (R214). -/
theorem toInt_signedQuot {a b : Word} (h : ¬ (a = 0x80000000 ∧ b = 0xFFFFFFFF)) :
    (signedQuot a b).toInt = a.toInt.tdiv b.toInt := by
  have hsdiv : (signedQuot a b).toInt = (a.sdiv b).toInt := (BitVec.toInt_ofInt _).trans (BitVec.toInt_sdiv a b).symm
  exact hsdiv.trans (BitVec.toInt_sdiv_of_ne_or_ne a b (not_and_or.mp h))

/-- The exact remainder always fits. -/
theorem toInt_signedRem (a b : Word) : (signedRem a b).toInt = a.toInt.tmod b.toInt := by
  rw [signedRem, ← BitVec.toInt_srem, BitVec.ofInt_toInt]

theorem toInt_signedQuot_of_sext {n : Nat} {a : Word} {v : BitVec n} (ha : a = sext v) (hn : n < 32) (b : Word) :
    (signedQuot a b).toInt = v.toInt.tdiv b.toInt := by
  have hfits : ¬ (a = 0x80000000 ∧ b = 0xFFFFFFFF) := fun ⟨hleast, _⟩ => sext_ne_least hn v (ha.symm.trans hleast)
  rw [toInt_signedQuot hfits, ha, toInt_sext hn.le]

theorem toInt_signedRem_of_sext {n : Nat} {a : Word} {v : BitVec n} (ha : a = sext v) (hn : n < 32) (b : Word) :
    (signedRem a b).toInt = v.toInt.tmod b.toInt := by
  rw [toInt_signedRem, ha, toInt_sext hn.le]

/-- Settles O19: the divisor is tested whole, and the result is that of the low byte or halfword as an integer. -/
theorem narrowSignedDivision : Obligations.NarrowSignedDivision := by
  intro s d r
  refine ⟨fun hzero => ?zero, fun hr => ?divides⟩
  case zero =>
    exact ⟨divide_runsTo_of_zero hzero d _, divide_runsTo_of_zero hzero d _, divide_runsTo_of_zero hzero d _,
      divide_runsTo_of_zero hzero d _⟩
  case divides =>
    have hbyte := signedByte_eq_sext (readReg s d)
    have hhalf := signedHalf_eq_sext (readReg s d)
    exact ⟨divide_runsTo_toInt hr d (toInt_signedQuot_of_sext hbyte (by omega) _),
      divide_runsTo_toInt hr d (toInt_signedQuot_of_sext hhalf (by omega) _),
      divide_runsTo_toInt hr d (toInt_signedRem_of_sext hbyte (by omega) _),
      divide_runsTo_toInt hr d (toInt_signedRem_of_sext hhalf (by omega) _)⟩

/-! ### The overflow of DIV and REM -/

theorem divOverflows_iff (a b : Word) : divOverflows a b = true ↔ a = 0x80000000 ∧ b = 0xFFFFFFFF := by
  rw [divOverflows, Bool.and_eq_true, beq_iff_eq, beq_iff_eq]

section
variable {s : State} {d r : RegNum}

theorem divAction_of_overflow (h : readReg s d = 0x80000000 ∧ readReg s r = 0xFFFFFFFF) : divAction d r s = freeResult s d :=
  if_pos ((divOverflows_iff _ _).mpr h)

theorem remAction_of_overflow (h : readReg s d = 0x80000000 ∧ readReg s r = 0xFFFFFFFF) : remAction d r s = freeResult s d :=
  if_pos ((divOverflows_iff _ _).mpr h)

theorem divAction_of_fits (h : ¬ (readReg s d = 0x80000000 ∧ readReg s r = 0xFFFFFFFF)) :
    divAction d r s = divideAction s d r (signedQuot (readReg s d)) :=
  if_neg (mt (divOverflows_iff _ _).mp h)

theorem remAction_of_fits (h : ¬ (readReg s d = 0x80000000 ∧ readReg s r = 0xFFFFFFFF)) :
    remAction d r s = divideAction s d r (signedRem (readReg s d)) :=
  if_neg (mt (divOverflows_iff _ _).mp h)

/-- A zero divisor is not the overflow. -/
theorem not_overflow_of_zero (hr : readReg s r = 0) : ¬ (readReg s d = 0x80000000 ∧ readReg s r = 0xFFFFFFFF) := by
  rintro ⟨-, hminus⟩
  rw [hr] at hminus
  exact absurd hminus (by decide)

end

theorem exec_div (d r : RegNum) (s : State) : exec (.div d r) s = finish 4 (divAction d r s) s := rfl

theorem exec_rem (d r : RegNum) (s : State) : exec (.rem d r) s = finish 4 (remAction d r s) s := rfl

/-- The free value goes to the destination alone (D22). -/
theorem freeResult_runsTo (s : State) (d : RegNum) :
    RunsTo 4 { slots := [slotOf s d], draws := true } s (finish 4 (freeResult s d) s) (fun _ => True) :=
  runsTo_finish_writes rfl trivial

/-- Settles O18: the overflow draws a free value; otherwise the zero divisor writes nothing and the exact results fit. -/
theorem signedDivision : Obligations.SignedDivision := by
  intro s d r
  rw [exec_div, exec_rem]
  refine ⟨fun hzero => ?zero, fun hleast hminus => ?overflow, fun hr hfits => ?fits⟩
  case zero =>
    rw [divAction_of_fits (not_overflow_of_zero hzero), remAction_of_fits (not_overflow_of_zero hzero)]
    exact ⟨divide_runsTo_of_zero hzero d _, divide_runsTo_of_zero hzero d _⟩
  case overflow =>
    rw [divAction_of_overflow ⟨hleast, hminus⟩, remAction_of_overflow ⟨hleast, hminus⟩]
    exact ⟨freeResult_runsTo s d, freeResult_runsTo s d⟩
  case fits =>
    rw [divAction_of_fits hfits, remAction_of_fits hfits, ← Int.tmod_def]
    exact ⟨divide_runsTo_toInt hr d (toInt_signedQuot hfits), divide_runsTo_toInt hr d (toInt_signedRem _ _)⟩

/-! ### Unsigned quotients and remainders -/

theorem unsignedQuot_of_toNat {a : Word} {n : Nat} (h : a.toNat = n) (b : Word) :
    unsignedQuot a b = BitVec.ofNat 32 (n / b.toNat) := by
  rw [unsignedQuot, h]

theorem unsignedRem_of_toNat {a : Word} {n : Nat} (h : a.toNat = n) (b : Word) :
    unsignedRem a b = BitVec.ofNat 32 (n % b.toNat) := by
  rw [unsignedRem, h]

/-- Settles O20: the divisor is tested whole, and the result is that of the register or its low part as a natural number. -/
theorem unsignedDivision : Obligations.UnsignedDivision := by
  intro s d r
  refine ⟨fun hzero => ?zero, fun hr => ?divides⟩
  case zero =>
    have hkeeps := divide_runsTo_of_zero hzero d
    simp only [List.forall_mem_cons]
    exact ⟨hkeeps _, hkeeps _, hkeeps _, hkeeps _, hkeeps _, hkeeps _, List.forall_mem_nil _⟩
  case divides =>
    have hbyte := toNat_unsignedByte (readReg s d)
    have hhalf := toNat_unsignedHalf (readReg s d)
    exact ⟨divide_writesReg hr d rfl, divide_writesReg hr d (unsignedQuot_of_toNat hbyte _),
      divide_writesReg hr d (unsignedQuot_of_toNat hhalf _), divide_writesReg hr d rfl,
      divide_writesReg hr d (unsignedRem_of_toNat hbyte _), divide_writesReg hr d (unsignedRem_of_toNat hhalf _)⟩

end Sys2Proof.Machine
end

section
/-! Branches (`44_branch.md`): targets and link values as integers modulo 2^32, a branch taken and not taken, NOP and the lone skips;
then the control transfers and the skips of a pair, by what a lower half can write (R320, R325) and what the upper half adds. -/

namespace Sys2Proof.Machine

/-! ### Targets and the link value -/

/-- Clearing the two low bits rounds down to a word boundary, whatever the word stands for. -/
theorem wordBase_eq_wordFloor (v : Word) : wordBase v = wordFloor v :=
  fetchAddress_eq_wordFloor { State.reset with pc := v }

theorem jumpTarget_eq_wordFloor (v : Word) : jumpTarget v = wordFloor v := wordBase_eq_wordFloor v

theorem linkValue_eq_wordFloor (pc : Word) : linkValue pc = wordFloor pc + 4 :=
  congrArg (· + 4) (wordBase_eq_wordFloor pc)

/-- Shifting the extended displacement by two counts it in words. -/
theorem branchTarget_eq_relTarget {n : Nat} (pc : Word) (disp : BitVec n) : branchTarget pc disp = relTarget pc disp := by
  have hwords : sext disp <<< 2 = BitVec.ofInt 32 (4 * disp.toInt) := by
    rw [sext_eq_ofInt, BitVec.shiftLeft_eq_mul_twoPow, BitVec.mul_comm, BitVec.ofInt_mul]
    rfl
  rw [branchTarget, wordBase_eq_wordFloor, hwords, relTarget, BitVec.ofInt_add, BitVec.ofInt_natCast, wordFloor]

/-! ### The effect of a branch -/

/-- The writes of a linking branch that is taken (R230). -/
def linkTo (target : Word) (s : State) : Effect :=
  { regs := [(slotOf s linkReg, linkValue s.pc)], pc := some target }

section
variable {c : Bool} {target : Word} {s : State}

theorem branchIf_of_taken (hc : c = true) : branchIf c target = .writes (jumpTo target) := by
  rw [branchIf, if_pos hc]

theorem branchIf_of_not_taken (hc : c = false) : branchIf c target = .writes noEffect := by
  rw [branchIf, if_neg (by simp [hc])]

theorem branchLinkIf_of_taken (hc : c = true) : branchLinkIf c target s = .writes (linkTo target s) := by
  rw [branchLinkIf, if_pos hc, linkTo]

theorem branchLinkIf_of_not_taken (hc : c = false) : branchLinkIf c target s = .writes noEffect := by
  rw [branchLinkIf, if_neg (by simp [hc])]

end

/-! ### A branch alone -/

/-- An effect that sets the pc jumps, within its own footprint. -/
theorem jumpsTo_finish_writes {target len : Word} {e : Effect} {s : State} {post : State → Prop} (hpc : e.pc = some target)
    (hpost : post (commit e (s.pc + len) s)) : JumpsTo target (effectFootprint e) s (finish len (.writes e) s) post :=
  ⟨_, rfl, by simp [hpc], frame_commit e _ s, hpost⟩

theorem readReg_commit_linkTo (target next : Word) (s : State) :
    readReg (commit (linkTo target s) next s) 14 = wordFloor s.pc + 4 := by
  rw [readReg_commit rfl rfl, linkTo, commitRegs_cons, commitRegs_nil, ← linkValue_eq_wordFloor]
  exact readSlot_writeSlot_same s _ _

section
variable {c : Bool} {target goal : Word}

theorem branchIf_jumpsTo (len : Word) (s : State) (hc : c = true) (hgoal : target = goal) :
    JumpsTo goal {} s (finish len (branchIf c target) s) (fun _ => True) := by
  rw [branchIf_of_taken hc, hgoal]
  exact jumpsTo_finish_writes rfl trivial

theorem branchIf_runsTo (len : Word) (s : State) (hc : c = false) :
    RunsTo len {} s (finish len (branchIf c target) s) (fun _ => True) := by
  rw [branchIf_of_not_taken hc]
  exact runsTo_finish_writes rfl trivial

theorem branchLinkIf_jumpsTo (len : Word) (s : State) (hc : c = true) (hgoal : target = goal) :
    JumpsTo goal { slots := [slotOf s 14] } s (finish len (branchLinkIf c target s) s)
      (fun t => readReg t 14 = wordFloor s.pc + 4) := by
  rw [branchLinkIf_of_taken hc, hgoal]
  exact jumpsTo_finish_writes rfl (readReg_commit_linkTo goal _ s)

theorem branchLinkIf_runsTo (len : Word) (s : State) (hc : c = false) :
    RunsTo len {} s (finish len (branchLinkIf c target s) s) (fun _ => True) := by
  rw [branchLinkIf_of_not_taken hc]
  exact runsTo_finish_writes rfl trivial

end

/-- Settles O30: each branch is `branchIf` or `branchLinkIf` on its condition, and its target is the integer one. -/
theorem pcRelativeBranches : Obligations.PcRelativeBranches := by
  intro s d8 d24
  have h8 := branchTarget_eq_relTarget s.pc d8
  have h24 := branchTarget_eq_relTarget s.pc d24
  refine ⟨branchIf_jumpsTo 2 s rfl h8, branchIf_jumpsTo 4 s rfl h24, branchLinkIf_jumpsTo 2 s rfl h8,
    branchLinkIf_jumpsTo 4 s rfl h24, fun hc => ?set, fun hc => ?clear⟩
  case set =>
    have hn : (!psw_c s.psw) = false := by rw [hc, Bool.not_true]
    exact ⟨branchIf_jumpsTo 2 s hc h8, branchIf_jumpsTo 4 s hc h24, branchLinkIf_jumpsTo 2 s hc h8,
      branchLinkIf_jumpsTo 4 s hc h24, branchIf_runsTo 2 s hn, branchIf_runsTo 4 s hn, branchLinkIf_runsTo 2 s hn,
      branchLinkIf_runsTo 4 s hn⟩
  case clear =>
    have hn : (!psw_c s.psw) = true := by rw [hc, Bool.not_false]
    exact ⟨branchIf_jumpsTo 2 s hn h8, branchIf_jumpsTo 4 s hn h24, branchLinkIf_jumpsTo 2 s hn h8,
      branchLinkIf_jumpsTo 4 s hn h24, branchIf_runsTo 2 s hc, branchIf_runsTo 4 s hc, branchLinkIf_runsTo 2 s hc,
      branchLinkIf_runsTo 4 s hc⟩

/-- Settles O32: the jumps are the same two shapes on the register before the instruction, rounded down. -/
theorem registerJumps : Obligations.RegisterJumps := by
  intro s r
  have htarget := jumpTarget_eq_wordFloor (readReg s r)
  refine ⟨branchIf_jumpsTo 2 s rfl htarget, branchLinkIf_jumpsTo 2 s rfl htarget, fun hc => ?set, fun hc => ?clear⟩
  case set => exact ⟨branchIf_jumpsTo 2 s hc htarget, branchIf_runsTo 2 s (by rw [hc, Bool.not_true])⟩
  case clear => exact ⟨branchIf_jumpsTo 2 s (by rw [hc, Bool.not_false]) htarget, branchIf_runsTo 2 s hc⟩

/-! ### Compare and branch -/

theorem getLsbD_31_eq_decide (v : Word) : v.getLsbD 31 = decide (v.toInt < 0) := by
  rw [← BitVec.msb_eq_toInt, BitVec.msb_eq_getLsbD_last]

theorem beq_zero_eq_decide (v : Word) : (v == 0) = decide (v.toInt = 0) := by
  rw [Bool.eq_iff_iff, beq_iff_eq, decide_eq_true_iff, ← BitVec.toInt_inj]
  rfl

/-- A 32-bit branch by a 16-bit displacement that is taken exactly when `c` holds, and writes nothing but the pc. -/
def BranchesWhen (s : State) (d : BitVec 16) (i : Instr) (c : Bool) : Prop :=
  (c = true → JumpsTo (relTarget s.pc d) {} s (exec i s) (fun _ => True))
    ∧ (c = false → RunsTo 4 {} s (exec i s) (fun _ => True))

theorem branchesWhen_of_branchIf {s : State} {d : BitVec 16} {i : Instr} {tested c : Bool}
    (hexec : exec i s = finish 4 (branchIf tested (branchTarget s.pc d)) s) (htested : tested = c) : BranchesWhen s d i c := by
  subst htested
  unfold BranchesWhen
  rw [hexec]
  exact ⟨fun hc => branchIf_jumpsTo 4 s hc (branchTarget_eq_relTarget s.pc d), branchIf_runsTo 4 s⟩

/-- Settles O31: each tests one condition, and its test of the sign bit or of zero is the comparison of the signed integer. -/
theorem compareAndBranch : Obligations.CompareAndBranch := by
  intro s a b d i c hmem
  have hsign := getLsbD_31_eq_decide (readReg s a)
  have hzero := beq_zero_eq_decide (readReg s a)
  suffices hall : ∀ p : Instr × Bool, p ∈ _ → BranchesWhen s d p.1 p.2 from hall (i, c) hmem
  simp only [List.forall_mem_cons]
  refine ⟨?beq, ?bne, ?beqz, ?bnez, ?bltz, ?bgez, ?blez, ?bgtz, List.forall_mem_nil _⟩
  case beq => exact branchesWhen_of_branchIf rfl rfl
  case bne => exact branchesWhen_of_branchIf rfl decide_not.symm
  case beqz => exact branchesWhen_of_branchIf rfl hzero
  case bnez => exact branchesWhen_of_branchIf rfl (by rw [bne, hzero, decide_not])
  case bltz => exact branchesWhen_of_branchIf rfl hsign
  case bgez => exact branchesWhen_of_branchIf rfl (by rw [hsign, ← decide_not, decide_eq_decide]; omega)
  case blez => exact branchesWhen_of_branchIf rfl (by rw [hsign, hzero, ← Bool.decide_or, decide_eq_decide]; omega)
  case bgtz =>
    have hpositive : (!decide ((readReg s a).toInt < 0) && !decide ((readReg s a).toInt = 0))
        = decide (0 < (readReg s a).toInt) := by
      rw [← decide_not, ← decide_not, ← Bool.decide_and, decide_eq_decide]
      omega
    exact branchesWhen_of_branchIf rfl (by rw [hsign, bne, hzero, hpositive])

/-! ### NOP, SC and SNC alone -/

/-- Settles O33: NOP writes nothing; SC and SNC look at the halfword they stand in alone (D18). -/
theorem nopAndLoneSkips : Obligations.NopAndLoneSkips := by
  intro s
  refine ⟨runsTo_finish_writes rfl trivial, fun hlower => ?lower, fun hupper => ?upper⟩
  case lower =>
    have hskip (c : Bool) : skipAction .alone c s = .writes noEffect := if_pos hlower
    have hruns (c : Bool) : RunsTo 2 {} s (finish 2 (skipAction .alone c s) s) (fun _ => True) :=
      hskip c ▸ runsTo_finish_writes rfl trivial
    exact ⟨hruns _, hruns _⟩
  case upper =>
    have hskip (c : Bool) : skipAction .alone c s = .stops (.refuse .skipWithoutPair) := if_neg (by rw [hupper]; decide)
    exact ⟨congrArg (finish 2 · s) (hskip _), congrArg (finish 2 · s) (hskip _)⟩

/-! ### What the lower half of a pair writes -/

/-- An effect on general registers, C and accumulators alone. -/
structure RegisterEffect (e : Effect) : Prop where
  psw : e.psw = none
  evb : e.evb = none
  bpc : e.bpc = none
  lock : e.lock = none
  store : e.store = none
  cop : e.cop = none
  copReads : e.copReads = 0
  device : e.device = []
  deviceReads : e.deviceReads = 0
  pc : e.pc = none

theorem registerEffect_of_parts (regs : List (Slot × Word)) (cond : Option Bool) (acc0 acc1 : Option Acc) (draws : Bool) :
    RegisterEffect { regs := regs, cond := cond, acc0 := acc0, acc1 := acc1, draws := draws } :=
  ⟨rfl, rfl, rfl, rfl, rfl, rfl, rfl, rfl, rfl, rfl⟩

theorem registerEffect_setAcc (a : AccNum) (v : AccView) : RegisterEffect (setAcc a v) := by
  unfold setAcc
  split <;> exact registerEffect_of_parts ..

/-- An instruction that may stand in the lower half writes an effect on registers, C and accumulators, alone as in a pair (R320,
R325). -/
theorem action_of_lower {l : Instr} (hl : category l = some .both ∨ category l = some .right) (s : State) :
    ∃ e, RegisterEffect e ∧ ∀ pos, action pos l s = .writes e := by
  cases l with
  | cmp | cmpeq | cmpu | cmpz | pcmpbz | addv | addx | subv | subx | ldi8 | mv | add | addi | neg | sub | and | not | or | xor
  | sll | slli | sra | srai | srl | srli | mul | nop | mvfachi | mvfaclo | mvfacmi =>
    exact ⟨_, registerEffect_of_parts .., fun _ => rfl⟩
  | mulhi | mullo | mulwhi | mulwlo | mulwu1 | machi | maclo | macwhi | macwlo | maclh1 | macwu1 | msblo | sadd | rac | rach
  | mvtachi | mvtaclo =>
    exact ⟨_, registerEffect_setAcc _ _, fun _ => rfl⟩
  | _ => rcases hl with hl | hl <;> cases hl

theorem exec_of_writes {i : Instr} {s : State} {e : Effect} (h : action .alone i s = .writes e) :
    exec i s = .next (commit e (s.pc + instrLength i) s) := by
  rw [exec_eq_finish, h, finish_writes]

/-! ### What the upper half adds to its partner -/

/-- What an upper half adds to a partner that writes registers, C and accumulators: its own footprint, and a free value where a
register or C may collide (R322, R323, D34). -/
def besideFootprint (e : Effect) : Footprint :=
  { effectFootprint e with draws := e.draws || !e.regs.isEmpty || e.cond.isSome }

theorem regsCollide_nil_left (l : List (Slot × Word)) : regsCollide [] l = false := rfl

/-- The merged effect beside such a partner: of the partner it has registers, C and accumulators. -/
theorem mergeEffects_of_registerEffect {el : Effect} (hl : RegisterEffect el) (n : Nat) (eu : Effect) :
    mergeEffects n eu el = { eu with
      regs := mergeRegs n eu.regs el.regs
      cond := mergeCond n eu.cond el.cond
      acc0 := eu.acc0.or el.acc0
      acc1 := eu.acc1.or el.acc1
      draws := eu.draws || el.draws || regsCollide eu.regs el.regs || (eu.cond.isSome && el.cond.isSome)
      cancels := false } := by
  simp [mergeEffects, hl.psw, hl.evb, hl.bpc, hl.lock, hl.store, hl.cop, hl.copReads, hl.device, hl.deviceReads, hl.pc]

/-- Seen from what the partner does alone, the pair changes only what the upper half adds. -/
theorem frame_mergeEffects {el : Effect} (hl : RegisterEffect el) (eu : Effect) (next next' : Word) (s : State) :
    Frame (besideFootprint eu) (commit el next s) (commit (mergeEffects s.draws eu el) next' s) := by
  have hframe := frame_commit (mergeEffects s.draws eu el) next' s
  rw [mergeEffects_of_registerEffect hl] at hframe ⊢
  exact {
    slots := fun sl hsl => by
      rw [readSlot_commit, readSlot_commit]
      apply readSlot_mergeRegs_of_lower
      simp only [writesSlot, List.any_eq_false, beq_iff_eq]
      exact fun w hw heq => hsl (List.mem_map.mpr ⟨w, hw, heq⟩)
    psw := fun hpsw i hi => by
      rw [hframe.psw hpsw i hi, commit_psw, getLsbD_commitPsw_of_ne _ _ hi, hl.psw, Option.getD_none]
    cond := fun hpsw hcond => by
      have hpsw : eu.psw = none := by simpa [besideFootprint, effectFootprint] using hpsw
      have hcond : eu.cond = none := by simpa [besideFootprint, effectFootprint] using hcond
      simp [commitPsw, hpsw, hcond, hl.psw]
    evb := fun h => by simpa [hl.evb] using hframe.evb h
    bpc := fun h => by simpa [hl.bpc] using hframe.bpc h
    acc0 := fun h => by
      have h : eu.acc0 = none := by simpa [besideFootprint, effectFootprint] using h
      simp [h]
    acc1 := fun h => by
      have h : eu.acc1 = none := by simpa [besideFootprint, effectFootprint] using h
      simp [h]
    lock := fun h => by simpa [hl.lock] using hframe.lock h
    mem := fun a ha => by simpa [hl.store, commitMem] using hframe.mem a ha
    written := fun n => by
      rw [commit_written el, hl.store]
      exact hframe.written n
    cop := fun h => by simpa [hl.cop, hl.copReads] using hframe.cop h
    device := fun h => by simpa [hl.device, hl.deviceReads] using hframe.device h
    draws := fun h => by
      obtain ⟨⟨hdraws, hregs⟩, hcond⟩ : (eu.draws = false ∧ eu.regs = []) ∧ eu.cond = none := by
        simpa [besideFootprint, effectFootprint] using h
      simp [hdraws, hregs, hcond, regsCollide_nil_left]
    inputs := by simp
    platform := by simp }

/-- Two halves that write, the upper one an instruction that adds `eu`: the pc is the upper half's, and `post` speaks of the state
after the merged effect. -/
theorem withPartner_of_writes {u l : Instr} {eu : Effect} {s : State} {target : Word} {post : State → Prop}
    (hl : category l = some .both ∨ category l = some .right) (hu : action .pair u s = .writes eu) (hcancels : eu.cancels = false)
    (hpc : eu.pc.getD (s.pc + 4) = target)
    (hpost : ∀ el, action .pair l s = .writes el → post (commit (mergeEffects s.draws eu el) (s.pc + 4) s)) :
    WithPartner l target (besideFootprint eu) s (execPair u l s) post := by
  obtain ⟨el, hregs, hwrites⟩ := action_of_lower hl s
  refine ⟨_, _, exec_of_writes (hwrites .alone), execPair_of_writes hu hcancels (hwrites .pair), ?_,
    frame_mergeEffects hregs eu _ _ s, hpost el (hwrites .pair)⟩
  rw [mergeEffects_of_registerEffect hregs]
  exact hpc

/-- Where the whole PSW may be written, so may its bit C. -/
theorem WithPartner.of_psw {l : Instr} {target : Word} {f : Footprint} {c : Bool} {s : State} {o : Result} {post : State → Prop}
    (h : WithPartner l target { f with cond := c } s o post) (hpsw : f.psw = true) : WithPartner l target f s o post := by
  obtain ⟨tl, t, hexec, ho, hpc, hframe, hpost⟩ := h
  exact ⟨tl, t, hexec, ho, hpc, hframe.of_psw hpsw, hpost⟩

/-! ### SC and SNC in a pair -/

/-- An upper half that writes nothing leaves the partner's writes. -/
theorem commit_mergeEffects_noEffect {el : Effect} (hl : RegisterEffect el) (n : Nat) (next : Word) (s : State) :
    commit (mergeEffects n noEffect el) next s = commit el next s := by
  have hregs : mergeRegs n [] el.regs = el.regs := by simp [mergeRegs, writesSlot]
  rw [mergeEffects_of_registerEffect hl]
  simp [noEffect, commit, commitPsw, hregs, regsCollide_nil_left, hl.psw, hl.evb, hl.bpc, hl.lock, hl.store, hl.cop, hl.copReads,
    hl.device, hl.deviceReads, hl.pc]

/-- A partner that is not cancelled does what it does alone, and the pc is the next word (R251, R252). -/
theorem execPair_of_kept {u l : Instr} (hl : category l = some .both ∨ category l = some .right) {s : State}
    (hu : action .pair u s = .writes noEffect) :
    ∃ t, exec l s = .next t ∧ execPair u l s = .next { t with pc := s.pc + 4 } := by
  obtain ⟨el, hregs, hwrites⟩ := action_of_lower hl s
  refine ⟨_, exec_of_writes (hwrites .alone), ?_⟩
  rw [execPair_of_writes hu rfl (hwrites .pair), commit_mergeEffects_noEffect hregs]
  simp [commit, hregs.pc]

/-- A cancelled partner leaves nothing but the pc (R326). -/
theorem execPair_runsTo_of_cancelled {u l : Instr} {s : State} (hu : action .pair u s = .writes { cancels := true }) :
    RunsTo 4 {} s (execPair u l s) (fun _ => True) := by
  rw [execPair_of_cancels hu rfl]
  exact runsTo_finish_writes rfl trivial

/-- SC and SNC in a pair: by their condition they cancel the partner. -/
theorem skipAction_pair_of_eq {c v : Bool} (h : c = v) (s : State) : skipAction .pair c s = .writes { cancels := v } := by
  rw [h]
  rfl

/-- Settles O57: SC and SNC only decide by the old C whether the partner's writes are merged. -/
theorem pairSkip : Obligations.PairSkip := by
  intro s l hl
  exact ⟨fun hc => execPair_runsTo_of_cancelled (skipAction_pair_of_eq hc s),
    fun hc => execPair_runsTo_of_cancelled (skipAction_pair_of_eq (by rw [hc, Bool.not_false]) s),
    fun hc => execPair_of_kept hl (skipAction_pair_of_eq hc s),
    fun hc => execPair_of_kept hl (skipAction_pair_of_eq (by rw [hc, Bool.not_true]) s)⟩

/-! ### Branches in a pair -/

section
variable {u l : Instr} {s : State} {c : Bool} {target goal : Word} (hl : category l = some .both ∨ category l = some .right)
include hl

theorem noEffect_withPartner (hu : action .pair u s = .writes noEffect) :
    WithPartner l (s.pc + 4) {} s (execPair u l s) (fun _ => True) :=
  withPartner_of_writes hl hu rfl rfl fun _ _ => trivial

theorem branchIf_withPartner (hu : action .pair u s = branchIf c target) (hc : c = true) (hgoal : target = goal) :
    WithPartner l goal {} s (execPair u l s) (fun _ => True) :=
  withPartner_of_writes hl (hu.trans (branchIf_of_taken hc)) rfl hgoal fun _ _ => trivial

theorem branchLinkIf_withPartner (hu : action .pair u s = branchLinkIf c target s) (hc : c = true) (hgoal : target = goal) :
    WithPartner l goal { slots := [slotOf s 14], draws := true } s (execPair u l s)
      (fun t => LeavesSlot l (slotOf s 14) s → readReg t 14 = wordFloor s.pc + 4) := by
  refine withPartner_of_writes hl (hu.trans (branchLinkIf_of_taken hc)) rfl hgoal fun el hel hleaves => ?_
  obtain ⟨el', hel', hslot⟩ := hleaves
  obtain rfl : el = el' := Action.writes.inj (hel.symm.trans hel')
  have hlink := readReg_commit_linkTo target (s.pc + 4) s
  rw [readReg, readSlot_commit] at hlink ⊢
  exact (readSlot_mergeRegs_of_upper hslot).trans hlink

end

/-! ### RTE and TRAP in a pair -/

/-- Clearing bit 0 rounds down to a halfword boundary. -/
theorem and_not_one_eq_ofNat (v : Word) : v &&& 0xFFFFFFFE = BitVec.ofNat 32 (v.toNat / 2 * 2) := by
  have mask : ∀ i < 32, (0xFFFFFFFE : Word).getLsbD i = decide (1 ≤ i) := by decide
  have hbits : v &&& (0xFFFFFFFE : Word) = v >>> 1 <<< 1 := by
    apply BitVec.eq_of_getLsbD_eq
    intro i hi
    rw [BitVec.getLsbD_and, mask i hi]
    cases i with
    | zero => simp
    | succ k => simp [hi, Nat.add_comm 1 k]
  apply BitVec.eq_of_toNat_eq
  rw [hbits]
  simp [Nat.shiftRight_eq_div_pow, Nat.shiftLeft_eq]

theorem and_not_one_of_even {v : Word} (h : v.getLsbD 0 = false) : v &&& 0xFFFFFFFE = v := by
  have heven : v.toNat / 2 * 2 = v.toNat := by
    have hbit : v.toNat % 2 = 0 := by simpa [BitVec.getLsbD, Nat.testBit_zero] using h
    omega
  rw [and_not_one_eq_ofNat, heven, BitVec.ofNat_toNat, BitVec.setWidth_eq]

section
variable {eu el : Effect} {p : Word}

/-- Every bit of the PSW but C is the upper half's, where it writes the whole register. -/
theorem getLsbD_psw_mergeEffects (hpsw : eu.psw = some p) (next : Word) (s : State) {b : Nat} (hb : b ≠ 0) :
    (commit (mergeEffects s.draws eu el) next s).psw.getLsbD b = p.getLsbD b := by
  rw [commit_psw, getLsbD_commitPsw_of_ne _ _ hb]
  simp [mergeEffects, hpsw]

/-- So is C, where the partner leaves it. -/
theorem psw_mergeEffects_of_leavesCond (hpsw : eu.psw = some p) {l : Instr} {s : State} (hel : action .pair l s = .writes el)
    (hleaves : LeavesCond l s) (next : Word) :
    (commit (mergeEffects s.draws eu el) next s).psw = (commit eu next s).psw := by
  obtain ⟨el', hel', hcond⟩ := hleaves
  obtain rfl : el = el' := Action.writes.inj (hel.symm.trans hel')
  simp [commitPsw, mergeEffects, hpsw, hcond]

end

/-- The bits that RTE gives back from the BPSW field (R266, R355). -/
theorem returnPsw_bits (p : Word) :
    psw_sm (returnPsw p) = psw_bsm p ∧ psw_ie (returnPsw p) = psw_bie p ∧ psw_pm (returnPsw p) = psw_bpm p
      ∧ psw_ce (returnPsw p) = psw_bce p := by
  simp [returnPsw, psw_sm, psw_bsm, psw_ie, psw_bie, psw_pm, psw_bpm, psw_ce, psw_bce]

/-- The bits that EIT entry saves and clears where the event keeps SM (R265, R350). -/
theorem entryPsw_bits (p : Word) :
    psw_sm (entryPsw false p) = psw_sm p ∧ psw_bsm (entryPsw false p) = psw_sm p ∧ psw_bie (entryPsw false p) = psw_ie p
      ∧ psw_bpm (entryPsw false p) = psw_pm p ∧ psw_bce (entryPsw false p) = psw_ce p ∧ psw_bc (entryPsw false p) = psw_c p
      ∧ psw_ie (entryPsw false p) = false ∧ psw_pm (entryPsw false p) = false ∧ psw_ce (entryPsw false p) = false := by
  simp [entryPsw, psw_sm, psw_bsm, psw_ie, psw_bie, psw_pm, psw_bpm, psw_ce, psw_bce, psw_c, psw_bc]

section
variable {l : Instr} {s : State} (hl : category l = some .both ∨ category l = some .right)
include hl

/-- RTE in a pair: the PSW but for C is that of the return; C is where the partner leaves it. -/
theorem rte_withPartner (hsupervisor : userMode s = false) :
    WithPartner l (BitVec.ofNat 32 (s.bpc.toNat / 2 * 2)) { psw := true, draws := true } s (execPair .rte l s) (fun t =>
      (∀ b, b ≠ 0 → t.psw.getLsbD b = (returnPsw s.psw).getLsbD b)
      ∧ psw_sm t.psw = psw_bsm s.psw ∧ psw_ie t.psw = psw_bie s.psw ∧ psw_pm t.psw = psw_bpm s.psw
      ∧ psw_ce t.psw = psw_bce s.psw ∧ (LeavesCond l s → psw_c t.psw = psw_bc s.psw)) := by
  have hu : action .pair .rte s = .writes (returnEffect s) := privileged_of_supervisor hsupervisor _
  refine (withPartner_of_writes hl hu rfl (and_not_one_eq_ofNat s.bpc) fun el hel => ?_).of_psw rfl
  have hbits {b : Nat} (hb : b ≠ 0) := getLsbD_psw_mergeEffects (eu := returnEffect s) (el := el) rfl (s.pc + 4) s hb
  obtain ⟨hsm, hie, hpm, hce⟩ := returnPsw_bits s.psw
  refine ⟨fun b hb => hbits hb, (hbits (by decide)).trans hsm, (hbits (by decide)).trans hie, (hbits (by decide)).trans hpm,
    (hbits (by decide)).trans hce, fun hleaves => ?_⟩
  rw [psw_mergeEffects_of_leavesCond rfl hel hleaves]
  exact psw_c_withCond _ _

/-- TRAP in a pair: BPC is the word after the pair, the PSW but for C that of the entry; C is where the partner leaves it. -/
theorem trap_withPartner (heven : s.pc.getLsbD 0 = false) (n : BitVec 4) :
    WithPartner l (vectorAddress s (.trap n)) { psw := true, bpc := true, draws := true } s (execPair (.trap n) l s) (fun t =>
      t.bpc = s.pc + 4 ∧ psw_sm t.psw = psw_sm s.psw ∧ psw_bsm t.psw = psw_sm s.psw ∧ psw_bie t.psw = psw_ie s.psw
      ∧ psw_bpm t.psw = psw_pm s.psw ∧ psw_bce t.psw = psw_ce s.psw ∧ psw_bc t.psw = psw_c s.psw
      ∧ psw_ie t.psw = false ∧ psw_pm t.psw = false ∧ psw_ce t.psw = false
      ∧ (LeavesCond l s → t.psw = (enterEIT (.trap n) (s.pc + 4) s).psw)) := by
  have hu : action .pair (.trap n) s = .writes (entryEffect (.trap n) (s.pc + 4) s) := rfl
  refine (withPartner_of_writes hl hu rfl rfl fun el hel => ?_).of_psw rfl
  have hbits {b : Nat} (hb : b ≠ 0) :=
    getLsbD_psw_mergeEffects (eu := entryEffect (.trap n) (s.pc + 4) s) (el := el) rfl (s.pc + 4) s hb
  obtain ⟨hsm, hbsm, hbie, hbpm, hbce, hbc, hie, hpm, hce⟩ := entryPsw_bits s.psw
  exact ⟨and_not_one_of_even (add_even heven rfl), (hbits (by decide)).trans hsm, (hbits (by decide)).trans hbsm,
    (hbits (by decide)).trans hbie, (hbits (by decide)).trans hbpm, (hbits (by decide)).trans hbce, (hbits (by decide)).trans hbc,
    (hbits (by decide)).trans hie, (hbits (by decide)).trans hpm, (hbits (by decide)).trans hce,
    psw_mergeEffects_of_leavesCond rfl hel (next := s.pc + 4)⟩

end

/-- Settles O54: by its kind and the old C each transfer is a branch taken, a branch not taken, RTE or TRAP beside the partner. -/
theorem pairControlTransfers : Obligations.PairControlTransfers := by
  intro s l d8 n r hl
  have h8 := branchTarget_eq_relTarget s.pc d8
  have hr := jumpTarget_eq_wordFloor (readReg s r)
  refine ⟨fun u target hmem => ?always, fun u target hmem => ?alwaysLinks, fun hc => ?set, fun hc => ?clear, rte_withPartner hl,
    fun heven => trap_withPartner hl heven n⟩
  case always =>
    simp only [List.mem_cons, Prod.mk.injEq, List.not_mem_nil, or_false] at hmem
    rcases hmem with ⟨rfl, rfl⟩ | ⟨rfl, rfl⟩
    · exact branchIf_withPartner hl rfl rfl h8
    · exact branchIf_withPartner hl rfl rfl hr
  case alwaysLinks =>
    simp only [List.mem_cons, Prod.mk.injEq, List.not_mem_nil, or_false] at hmem
    rcases hmem with ⟨rfl, rfl⟩ | ⟨rfl, rfl⟩
    · exact branchLinkIf_withPartner hl rfl rfl h8
    · exact branchLinkIf_withPartner hl rfl rfl hr
  case set =>
    have hn : (!psw_c s.psw) = false := by rw [hc, Bool.not_true]
    refine ⟨fun u target hmem => ?_, branchLinkIf_withPartner hl rfl hc h8⟩
    simp only [List.mem_cons, Prod.mk.injEq, List.not_mem_nil, or_false] at hmem
    rcases hmem with ⟨rfl, rfl⟩ | ⟨rfl, rfl⟩ | ⟨rfl, rfl⟩ | ⟨rfl, rfl⟩ | ⟨rfl, rfl⟩
    · exact branchIf_withPartner hl rfl hc h8
    · exact branchIf_withPartner hl rfl hc hr
    · exact noEffect_withPartner hl (branchIf_of_not_taken hn)
    · exact noEffect_withPartner hl (branchLinkIf_of_not_taken hn)
    · exact noEffect_withPartner hl (branchIf_of_not_taken hn)
  case clear =>
    have hn : (!psw_c s.psw) = true := by rw [hc, Bool.not_false]
    refine ⟨fun u target hmem => ?_, branchLinkIf_withPartner hl rfl hn h8⟩
    simp only [List.mem_cons, Prod.mk.injEq, List.not_mem_nil, or_false] at hmem
    rcases hmem with ⟨rfl, rfl⟩ | ⟨rfl, rfl⟩ | ⟨rfl, rfl⟩ | ⟨rfl, rfl⟩ | ⟨rfl, rfl⟩
    · exact branchIf_withPartner hl rfl hn h8
    · exact branchIf_withPartner hl rfl hn hr
    · exact noEffect_withPartner hl (branchIf_of_not_taken hc)
    · exact noEffect_withPartner hl (branchLinkIf_of_not_taken hc)
    · exact noEffect_withPartner hl (branchIf_of_not_taken hc)

end Sys2Proof.Machine
end

section
/-! EIT-related instructions (`45_bit_eit.md`): the bits SETPSW and CLRPSW write, TRAP as an EIT entry, RTE as a jump to BPC. -/

namespace Sys2Proof.Machine

/-! ### SETPSW and CLRPSW -/

/-- SETPSW adds the named bits, but none of the reserved bits of the low byte (R263, D16). -/
theorem getLsbD_setPsw (p : Word) (imm8 : BitVec 8) {i : Nat} (hi : i < 32) :
    (setPsw p imm8).getLsbD i = (!decide (i = 1 ∨ i = 4 ∨ i = 5) && (p.getLsbD i || imm8.getLsbD i)) := by
  have kept : ∀ j < 32, (0xFFFFFFCD : Word).getLsbD j = !decide (j = 1 ∨ j = 4 ∨ j = 5) := by decide
  rw [setPsw, BitVec.getLsbD_and, BitVec.getLsbD_or, BitVec.getLsbD_setWidth, kept i hi, Bool.and_comm]
  simp [hi]

/-- CLRPSW takes the named bits away (R264). -/
theorem getLsbD_clearPsw (p : Word) (imm8 : BitVec 8) {i : Nat} (hi : i < 32) :
    (clearPsw p imm8).getLsbD i = (p.getLsbD i && !imm8.getLsbD i) := by
  simp [clearPsw, hi]

/-- A write of the whole PSW and, where C is written too, of the same C: the PSW is the only footprint. -/
theorem runsTo_write_psw_cond {p : Word} {c : Option Bool} (len : Word) (s : State) (hc : ∀ b, c = some b → psw_c p = b) :
    RunsTo len { psw := true } s (finish len (.writes { psw := some p, cond := c }) s) (fun t => t.psw = p) := by
  cases c with
  | none => exact runsTo_finish_writes rfl rfl
  | some b =>
    obtain rfl := hc b rfl
    exact runsTo_write_psw len s p

/-- Past the PIE check, SETPSW and CLRPSW are a write of the whole PSW; SETPSW may not switch PM on outside the user space. -/
theorem exec_setpsw_of_supervisor {s : State} (h : userMode s = false) (imm8 : BitVec 8) :
    exec (.setpsw imm8) s = finish 2 (checkedPm s (setPsw s.psw imm8)
      (.writes { psw := some (setPsw s.psw imm8), cond := if imm8.getLsbD 0 then some true else none })) s :=
  congrArg (finish 2 · s) (privileged_of_supervisor h _)

theorem exec_clrpsw_of_supervisor {s : State} (h : userMode s = false) (imm8 : BitVec 8) :
    exec (.clrpsw imm8) s = finish 2
      (.writes { psw := some (clearPsw s.psw imm8), cond := if imm8.getLsbD 0 then some false else none }) s :=
  congrArg (finish 2 · s) (privileged_of_supervisor h _)

/-- In supervisor mode PM after SETPSW is the bit of the immediate. -/
theorem psw_pm_setPsw_of_supervisor {s : State} (h : userMode s = false) (imm8 : BitVec 8) :
    psw_pm (setPsw s.psw imm8) = imm8.getLsbD 3 := by
  have hold : s.psw.getLsbD 3 = false := h
  rw [psw_pm, getLsbD_setPsw _ _ (by decide), hold]
  simp

/-- Where SETPSW writes C, it writes the C of its new PSW. -/
theorem psw_c_setPsw (p : Word) (imm8 : BitVec 8) :
    ∀ b, (if imm8.getLsbD 0 then some true else none) = some b → psw_c (setPsw p imm8) = b := by
  intro b hb
  obtain ⟨hnamed, rfl⟩ : imm8.getLsbD 0 = true ∧ true = b := by simpa using hb
  rw [psw_c, getLsbD_setPsw _ _ (by decide), hnamed]
  simp

/-- Where CLRPSW writes C, it writes the C of its new PSW. -/
theorem psw_c_clearPsw (p : Word) (imm8 : BitVec 8) :
    ∀ b, (if imm8.getLsbD 0 then some false else none) = some b → psw_c (clearPsw p imm8) = b := by
  intro b hb
  obtain ⟨hnamed, rfl⟩ : imm8.getLsbD 0 = true ∧ false = b := by simpa using hb
  rw [psw_c, getLsbD_clearPsw _ _ (by decide), hnamed]
  simp

/-- Settles O37: past the PIE check each is one write of the PSW, whose bits are those of `setPsw` and `clearPsw`; the new PM of
SETPSW is the bit of the immediate, which decides whether it is refused. -/
theorem setAndClearPsw : Obligations.SetAndClearPsw := by
  intro s imm8 hsupervisor
  rw [exec_setpsw_of_supervisor hsupervisor, exec_clrpsw_of_supervisor hsupervisor]
  have hpm := psw_pm_setPsw_of_supervisor hsupervisor imm8
  refine ⟨fun hallowed => ?set, fun hnew hpc => ?pmSwitch, ?clear⟩
  case set =>
    rw [checkedPm_of_allowed (by rwa [hpm])]
    exact (runsTo_write_psw_cond 2 s (psw_c_setPsw s.psw imm8)).imp fun t ht i hi => ht ▸ getLsbD_setPsw s.psw imm8 hi
  case pmSwitch =>
    rw [checkedPm_of_switch hsupervisor (hpm.trans hnew) hpc]
    rfl
  case clear =>
    exact (runsTo_write_psw_cond 2 s (psw_c_clearPsw s.psw imm8)).imp fun t ht i hi => ht ▸ getLsbD_clearPsw s.psw imm8 hi

/-! ### TRAP -/

/-- TRAP is an EIT entry in either mode (R265). -/
theorem exec_trap (n : BitVec 4) (s : State) : exec (.trap n) s = .next (enterEIT (.trap n) (s.pc + 2) s) := rfl

/-- The PSW after TRAP: SM kept, C cleared. -/
theorem enterEIT_trap_psw (n : BitVec 4) (ret : Word) (s : State) :
    (enterEIT (.trap n) ret s).psw = withCond (entryPsw false s.psw) false := rfl

/-- Settles O42: the entry saves the next address, even like the pc, and its PSW bits are those of `entryPsw` with C cleared. -/
theorem trapResult : Obligations.TrapResult := by
  intro s n heven
  have hbits {b : Nat} (hb : b ≠ 0) := getLsbD_withCond_of_ne (entryPsw false s.psw) false hb
  obtain ⟨hsm, hbsm, hbie, hbpm, hbce, hbc, hie, hpm, hce⟩ := entryPsw_bits s.psw
  refine ⟨_, exec_trap n s, and_not_one_of_even (add_even heven rfl), ?_⟩
  rw [enterEIT_trap_psw]
  exact ⟨(hbits (by decide)).trans hsm, (hbits (by decide)).trans hbsm, (hbits (by decide)).trans hbie,
    (hbits (by decide)).trans hbpm, (hbits (by decide)).trans hbce, (hbits (by decide)).trans hbc, (hbits (by decide)).trans hie,
    (hbits (by decide)).trans hpm, (hbits (by decide)).trans hce, psw_c_withCond _ _, rfl, frame_enterEIT _ _ s⟩

/-! ### RTE -/

/-- In supervisor mode RTE writes the effect of the return (R266). -/
theorem exec_rte_of_supervisor {s : State} (h : userMode s = false) : exec .rte s = .next (commit (returnEffect s) (s.pc + 2) s) :=
  congrArg (finish 2 · s) (privileged_of_supervisor h _)

/-- The PSW after RTE: C is BC. -/
theorem commit_returnEffect_psw (next : Word) (s : State) :
    (commit (returnEffect s) next s).psw = withCond (returnPsw s.psw) (psw_bc s.psw) := rfl

/-- RTE writes the PSW and the pc alone. -/
theorem frame_returnEffect (next : Word) (s : State) : Frame { psw := true } s (commit (returnEffect s) next s) :=
  (frame_commit (returnEffect s) next s).of_psw (c := true) rfl

/-- The return keeps the BPSW field (R355). -/
theorem returnPsw_backup_bits (p : Word) :
    psw_bsm (returnPsw p) = psw_bsm p ∧ psw_bie (returnPsw p) = psw_bie p ∧ psw_bpm (returnPsw p) = psw_bpm p
      ∧ psw_bce (returnPsw p) = psw_bce p ∧ psw_bc (returnPsw p) = psw_bc p := by
  simp [returnPsw, psw_bsm, psw_bie, psw_bpm, psw_bce, psw_bc]

/-- Settles O43: RTE jumps to BPC made even; the PSW bits are those of `returnPsw`, C is BC. -/
theorem returnResult : Obligations.ReturnResult := by
  intro s hsupervisor
  have hbits {b : Nat} (hb : b ≠ 0) := getLsbD_withCond_of_ne (returnPsw s.psw) (psw_bc s.psw) hb
  obtain ⟨hsm, hie, hpm, hce⟩ := returnPsw_bits s.psw
  obtain ⟨hbsm, hbie, hbpm, hbce, hbc⟩ := returnPsw_backup_bits s.psw
  refine ⟨_, exec_rte_of_supervisor hsupervisor, and_not_one_eq_ofNat s.bpc, frame_returnEffect _ s, ?_⟩
  simp only [commit_returnEffect_psw]
  exact ⟨(hbits (by decide)).trans hsm, (hbits (by decide)).trans hie, (hbits (by decide)).trans hpm,
    (hbits (by decide)).trans hce, psw_c_withCond _ _, (hbits (by decide)).trans hbsm, (hbits (by decide)).trans hbie,
    (hbits (by decide)).trans hbpm, (hbits (by decide)).trans hbce, (hbits (by decide)).trans hbc⟩

end Sys2Proof.Machine
end

section
/-! The DSP functions (`46_dsp.md`): a value of the 64-bit view is read as an integer modulo 2^64, so each result is integer arithmetic
and one cut to the 56 stored bits (R50, R51). First the write of one accumulator, then products, sums, rounding, moves, saturation. -/

namespace Sys2Proof.Machine

/-! ### One accumulator written -/

theorem effectFootprint_setAcc (a : AccNum) (v : AccView) :
    effectFootprint (setAcc a v) = { acc0 := a = 0, acc1 := a = 1 } := by
  obtain rfl | rfl := BitVec.eq_zero_or_eq_one a <;> rfl

theorem setAcc_pc (a : AccNum) (v : AccView) : (setAcc a v).pc = none := by
  unfold setAcc
  split <;> rfl

theorem accOf_commit_setAcc (a : AccNum) (v : AccView) (next : Word) (s : State) :
    accOf (commit (setAcc a v) next s) a = v.setWidth 56 := by
  obtain rfl | rfl := BitVec.eq_zero_or_eq_one a <;> rfl

/-- The write of one accumulator is the whole footprint; it keeps the low 56 bits (R51). -/
theorem setAcc_writesAcc (s : State) (a : AccNum) (v : AccView) :
    WritesAcc s (finish 2 (.writes (setAcc a v)) s) a (fun t => accOf t a = v.setWidth 56) := by
  rw [WritesAcc, ← effectFootprint_setAcc a v]
  exact runsTo_finish_writes (setAcc_pc a v) (accOf_commit_setAcc a v _ s)

/-! ### The access view as integers modulo 2^64 -/

theorem setWidth_ofInt {m n : Nat} (h : m ≤ n) (x : Int) : (BitVec.ofInt n x).setWidth m = BitVec.ofInt m x := by
  rw [← BitVec.signExtend_eq_setWidth_of_le _ h]
  apply BitVec.eq_of_toInt_eq
  rw [BitVec.toInt_signExtend_eq_toInt_bmod_of_le _ h, BitVec.toInt_ofInt, BitVec.toInt_ofInt]
  exact Int.bmod_bmod_of_dvd (pow_dvd_pow 2 h)

theorem twoPow_eq_ofInt (n k : Nat) : BitVec.twoPow n k = BitVec.ofInt n (2 ^ k) := by
  apply BitVec.eq_of_toNat_eq
  have hcast : ((2 ^ k : Nat) : Int) = 2 ^ k := by push_cast; rfl
  rw [BitVec.toNat_twoPow, ← hcast, BitVec.ofInt_natCast, BitVec.toNat_ofNat]

/-- A shift left multiplies by a power of 2. -/
theorem ofInt_shiftLeft (n k : Nat) (x : Int) : BitVec.ofInt n x <<< k = BitVec.ofInt n (x * 2 ^ k) := by
  rw [BitVec.shiftLeft_eq_mul_twoPow, twoPow_eq_ofInt, BitVec.ofInt_mul]

theorem ofInt_sub (n : Nat) (x y : Int) : BitVec.ofInt n (x - y) = BitVec.ofInt n x - BitVec.ofInt n y := by
  rw [Int.sub_eq_add_neg, BitVec.ofInt_add, BitVec.ofInt_neg, BitVec.sub_eq_add_neg]

/-- An arithmetic shift right divides and rounds down. -/
theorem sshiftRight_eq_ofInt_ediv {n : Nat} (v : BitVec n) (k : Nat) : v.sshiftRight k = BitVec.ofInt n (v.toInt / 2 ^ k) := by
  rw [BitVec.sshiftRight, Int.shiftRight_eq_div_pow, Nat.cast_pow, Nat.cast_ofNat]

/-- The view is the sign extension of the stored bits (R50). -/
theorem accRead_eq_signExtend (s : State) (a : AccNum) : accRead s a = (accOf s a).signExtend 64 := rfl

theorem accRead_eq_ofInt (s : State) (a : AccNum) : accRead s a = BitVec.ofInt 64 (accOf s a).toInt := rfl

theorem toInt_accRead (s : State) (a : AccNum) : (accRead s a).toInt = (accOf s a).toInt :=
  BitVec.toInt_signExtend_of_le (by omega)

theorem abs_toInt_le {n : Nat} (v : BitVec n) : |v.toInt| ≤ 2 ^ (n - 1) :=
  abs_le.mpr ⟨BitVec.le_toInt v, BitVec.toInt_lt.le⟩

section
variable {v : AccView} {x : Int} (s : State) (a : AccNum)

/-- An accumulator written with an integer holds it modulo 2^56. -/
theorem setAcc_writesAcc_ofInt (hv : v = BitVec.ofInt 64 x) :
    WritesAcc s (finish 2 (.writes (setAcc a v)) s) a (fun t => accOf t a = BitVec.ofInt 56 x) :=
  (setAcc_writesAcc s a v).imp fun _ ht => by rw [ht, hv, setWidth_ofInt (by omega)]

/-- An integer that fits into the 56 bits is held exactly. -/
theorem setAcc_writesAcc_toInt (hv : v = BitVec.ofInt 64 x) {m : Nat} (hx : |x| ≤ 2 ^ m) (hm : m < 55) :
    WritesAcc s (finish 2 (.writes (setAcc a v)) s) a (fun t => (accOf t a).toInt = x) := by
  have hfits : |x| < 2 ^ 55 := hx.trans_lt (pow_lt_pow_right₀ (by decide) hm)
  obtain ⟨hlow, hhigh⟩ := abs_lt.mp hfits
  exact (setAcc_writesAcc_ofInt s a hv).imp fun _ ht => by rw [ht, BitVec.toInt_ofInt_eq_self (by omega) hlow.le hhigh]

end

/-! ### Products -/

section
variable (s : State) (r : RegNum)

theorem hi16_eq_ofInt : hi16 (readReg s r) = BitVec.ofInt 64 (hiInt s r) := rfl

theorem lo16_eq_ofInt : lo16 (readReg s r) = BitVec.ofInt 64 (loInt s r) := rfl

theorem s32_eq_ofInt : s32 (readReg s r) = BitVec.ofInt 64 (regInt s r) := rfl

theorem ulo16_eq_ofInt : ulo16 (readReg s r) = BitVec.ofInt 64 (uloInt s r) := by
  rw [uloInt, BitVec.ofInt_natCast, BitVec.ofNat_toNat, ulo16]

theorem abs_hiInt_le : |hiInt s r| ≤ 2 ^ 15 := abs_toInt_le _

theorem abs_loInt_le : |loInt s r| ≤ 2 ^ 15 := abs_toInt_le _

theorem abs_regInt_le : |regInt s r| ≤ 2 ^ 31 := abs_toInt_le _

theorem abs_uloInt_le : |uloInt s r| ≤ 2 ^ 16 := by
  rw [uloInt, Nat.abs_cast]
  exact_mod_cast (BitVec.isLt _).le

end

theorem abs_mul_le_pow {x y : Int} {m n : Nat} (hx : |x| ≤ 2 ^ m) (hy : |y| ≤ 2 ^ n) : |x * y| ≤ 2 ^ (m + n) := by
  rw [abs_mul, pow_add]
  exact mul_le_mul hx hy (abs_nonneg y) (by positivity)

/-- A product of factors given as integers. -/
theorem product_eq_ofInt {u v : AccView} {x y : Int} (hu : u = BitVec.ofInt 64 x) (hv : v = BitVec.ofInt 64 y) :
    u * v = BitVec.ofInt 64 (x * y) := by
  rw [hu, hv, BitVec.ofInt_mul]

/-- A product placed at bit 16 (R272). -/
theorem shiftedProduct_eq_ofInt {u v : AccView} {x y : Int} (hu : u = BitVec.ofInt 64 x) (hv : v = BitVec.ofInt 64 y) :
    (u * v) <<< 16 = BitVec.ofInt 64 (x * y * 2 ^ 16) := by
  rw [product_eq_ofInt hu hv, ofInt_shiftLeft]

theorem abs_shiftedProduct_le {x y : Int} (hx : |x| ≤ 2 ^ 15) (hy : |y| ≤ 2 ^ 15) : |x * y * 2 ^ 16| ≤ 2 ^ 46 :=
  abs_mul_le_pow (abs_mul_le_pow hx hy) (n := 16) le_rfl

/-- Settles O47: the view's product is that of the factors as integers, and it fits into the 56 bits. -/
theorem dspMultiply : Obligations.DspMultiply := by
  intro s a b acc
  have hword := s32_eq_ofInt s a
  have hhigh := hi16_eq_ofInt s b
  have hlow := lo16_eq_ofInt s b
  exact ⟨setAcc_writesAcc_toInt s acc (shiftedProduct_eq_ofInt (hi16_eq_ofInt s a) hhigh)
      (abs_shiftedProduct_le (abs_hiInt_le s a) (abs_hiInt_le s b)) (by decide),
    setAcc_writesAcc_toInt s acc (shiftedProduct_eq_ofInt (lo16_eq_ofInt s a) hlow)
      (abs_shiftedProduct_le (abs_loInt_le s a) (abs_loInt_le s b)) (by decide),
    setAcc_writesAcc_toInt s 0 (product_eq_ofInt hword hhigh) (abs_mul_le_pow (abs_regInt_le s a) (abs_hiInt_le s b)) (by decide),
    setAcc_writesAcc_toInt s 0 (product_eq_ofInt hword hlow) (abs_mul_le_pow (abs_regInt_le s a) (abs_loInt_le s b)) (by decide),
    setAcc_writesAcc_toInt s 1 (product_eq_ofInt hword (ulo16_eq_ofInt s b))
      (abs_mul_le_pow (abs_regInt_le s a) (abs_uloInt_le s b)) (by decide)⟩

/-! ### Sums -/

theorem accRead_add_eq_ofInt {v : AccView} {x : Int} (s : State) (a : AccNum) (hv : v = BitVec.ofInt 64 x) :
    accRead s a + v = BitVec.ofInt 64 ((accOf s a).toInt + x) := by
  rw [accRead_eq_ofInt, hv, BitVec.ofInt_add]

theorem accRead_sub_eq_ofInt {v : AccView} {x : Int} (s : State) (a : AccNum) (hv : v = BitVec.ofInt 64 x) :
    accRead s a - v = BitVec.ofInt 64 ((accOf s a).toInt - x) := by
  rw [accRead_eq_ofInt, hv, ofInt_sub]

/-- Settles O48: the accumulator is read as an integer, so the sum in the view is the exact sum modulo 2^64, cut to 56 bits. -/
theorem dspAccumulate : Obligations.DspAccumulate := by
  intro s a b acc
  have hword := s32_eq_ofInt s a
  have hhigh := hi16_eq_ofInt s b
  have hlow := lo16_eq_ofInt s b
  have hlowA := lo16_eq_ofInt s a
  exact ⟨setAcc_writesAcc_ofInt s acc (accRead_add_eq_ofInt s acc (shiftedProduct_eq_ofInt (hi16_eq_ofInt s a) hhigh)),
    setAcc_writesAcc_ofInt s acc (accRead_add_eq_ofInt s acc (shiftedProduct_eq_ofInt hlowA hlow)),
    setAcc_writesAcc_ofInt s 0 (accRead_add_eq_ofInt s 0 (product_eq_ofInt hword hhigh)),
    setAcc_writesAcc_ofInt s 0 (accRead_add_eq_ofInt s 0 (product_eq_ofInt hword hlow)),
    setAcc_writesAcc_ofInt s 1 (accRead_add_eq_ofInt s 1 (shiftedProduct_eq_ofInt hlowA hhigh)),
    setAcc_writesAcc_ofInt s 1 (accRead_add_eq_ofInt s 1 (product_eq_ofInt hword (ulo16_eq_ofInt s b))),
    setAcc_writesAcc_ofInt s 0 (accRead_sub_eq_ofInt s 0 (shiftedProduct_eq_ofInt hlowA hlow))⟩

/-! ### SADD, RAC and RACH -/

theorem shiftedAcc_eq_ofInt (s : State) (a : AccNum) (k : Nat) :
    (accRead s a).sshiftRight k = BitVec.ofInt 64 ((accOf s a).toInt / 2 ^ k) := by
  rw [sshiftRight_eq_ofInt_ediv, toInt_accRead]

/-- Clearing the low `k` bits rounds down to a multiple of `2 ^ k`. -/
theorem and_highBits_eq_ofInt {n : Nat} (v : BitVec n) (k : Nat) :
    v &&& (BitVec.allOnes n <<< k) = BitVec.ofInt n (v.toInt / 2 ^ k * 2 ^ k) := by
  rw [← ofInt_shiftLeft, ← sshiftRight_eq_ofInt_ediv]
  ext i hi
  by_cases hk : i < k
  · simp [hk]
  · have hback : k + (i - k) = i := by omega
    simp [hk, BitVec.getElem_sshiftRight, hback, hi]

/-- A multiple is below a number exactly when it is below the number rounded down. -/
theorem le_roundDown_iff {c m x : Int} (hc : 0 < c) (hm : c ∣ m) : m ≤ x / c * c ↔ m ≤ x := by
  obtain ⟨q, rfl⟩ := hm
  rw [mul_comm c q, Int.mul_le_mul_iff_of_pos_right hc, Int.le_ediv_iff_mul_le hc]

/-- Saturation in the order of the model is the clamp of the value rounded down: both bounds are multiples of the unit (R285, R286). -/
theorem roundAcc_eq_ofInt {v half top : AccView} {imm1 k : Nat} {x : Int} (hx : ((v <<< imm1) + half).toInt = x)
    (htop : 2 ^ k ∣ top.toInt) (hk : k ≤ 47) (hpos : 0 ≤ top.toInt) :
    roundAcc v imm1 half top (BitVec.allOnes 64 <<< k) = BitVec.ofInt 64 (max (-2 ^ 47) (min top.toInt (x / 2 ^ k * 2 ^ k))) := by
  have hunit : (0 : Int) < 2 ^ k := by positivity
  have hbottom : (2 ^ k : Int) ∣ -2 ^ 47 := (pow_dvd_pow 2 hk).neg_right
  have hdown := Int.ediv_mul_le x hunit.ne'
  have htopIff := le_roundDown_iff (x := x) hunit htop
  have hbottomIff := le_roundDown_iff (x := x) hunit hbottom
  have hleast : (0xFFFF800000000000 : AccView) = BitVec.ofInt 64 (-2 ^ 47) := by decide
  have hleastInt : (0xFFFF800000000000 : AccView).toInt = -2 ^ 47 := by decide
  simp only [roundAcc, BitVec.slt_iff_toInt_lt, hx, hleastInt]
  split
  case isTrue habove =>
    rw [min_eq_left (htopIff.mpr habove.le), max_eq_right (by omega), BitVec.ofInt_toInt]
  case isFalse hbelowTop =>
    rw [min_eq_right (by omega)]
    split
    case isTrue hbelow => rw [max_eq_left (by omega), hleast]
    case isFalse hfits => rw [max_eq_right (by omega), and_highBits_eq_ofInt, hx]

/-- The value before saturation: the shift by 1 or 2 and half a unit stay within the view. -/
theorem toInt_shifted_add_half {half : AccView} {h : Int} {imm1 : Nat} (s : State) (a : AccNum) (himm : imm1 = 1 ∨ imm1 = 2)
    (hhalf : half = BitVec.ofInt 64 h) (hh : 0 ≤ h ∧ h ≤ 2 ^ 31) :
    ((accRead s a <<< imm1) + half).toInt = (accOf s a).toInt * 2 ^ imm1 + h := by
  have hacc := abs_le.mp (abs_toInt_le (accOf s a))
  rw [accRead_eq_ofInt, ofInt_shiftLeft, hhalf, ← BitVec.ofInt_add]
  obtain rfl | rfl := himm <;> exact BitVec.toInt_ofInt_eq_self (by omega) (by omega) (by omega)

/-- What rounding can give stays far inside the 56 bits. -/
theorem abs_clamp_le {m x : Int} (hm : 0 ≤ m ∧ m ≤ 2 ^ 47) : |max (-2 ^ 47) (min m x)| ≤ 2 ^ 47 :=
  abs_le.mpr ⟨le_max_left _ _, max_le (by omega) ((min_le_left m x).trans hm.2)⟩

/-- Settles O49: the value before saturation is exact, and rounding clamps it. -/
theorem dspSumAndRounding : Obligations.DspSumAndRounding := by
  intro s ad sa imm1
  refine ⟨setAcc_writesAcc_ofInt s 0 (accRead_add_eq_ofInt s 0 (shiftedAcc_eq_ofInt s 1 16)), fun himm => ⟨?rac, ?rach⟩⟩
  case rac =>
    have hsum := toInt_shifted_add_half (half := 0x8000) (h := 2 ^ 15) s sa himm (by decide) (by decide)
    exact setAcc_writesAcc_toInt s ad (roundAcc_eq_ofInt (k := 16) hsum (by decide) (by decide) (by decide))
      (abs_clamp_le (by decide)) (by decide)
  case rach =>
    have hsum := toInt_shifted_add_half (half := 0x80000000) (h := 2 ^ 31) s sa himm (by decide) (by decide)
    exact setAcc_writesAcc_toInt s ad (roundAcc_eq_ofInt (k := 32) hsum (by decide) (by decide) (by decide))
      (abs_clamp_le (by decide)) (by decide)

/-! ### The accumulator moves -/

/-- 32 bits of the view from bit `k` on are the integer divided by `2 ^ k`, modulo 2^32. -/
theorem extractLsb'_eq_ofInt (v : AccView) {k : Nat} (hk : k + 32 ≤ 64) :
    v.extractLsb' k 32 = BitVec.ofInt 32 (v.toInt / 2 ^ k) := by
  rw [← setWidth_ofInt (n := 64) (by omega), ← sshiftRight_eq_ofInt_ediv]
  ext i hi
  have hin : k + i < 64 := by omega
  simp [BitVec.getElem_sshiftRight, hin, hi.trans]

theorem accRead_extractLsb'_eq_ofInt (s : State) (a : AccNum) {k : Nat} (hk : k + 32 ≤ 64) :
    (accRead s a).extractLsb' k 32 = BitVec.ofInt 32 ((accOf s a).toInt / 2 ^ k) := by
  rw [extractLsb'_eq_ofInt _ hk, toInt_accRead]

/-- The view extends the sign, so below bit 56 it shows the stored bits (R50). -/
theorem accRead_extractLsb'_eq_accOf (s : State) (a : AccNum) {k n : Nat} (hk : k + n ≤ 56) :
    (accRead s a).extractLsb' k n = (accOf s a).extractLsb' k n := by
  ext i hi
  have hstored : k + i < 56 := by omega
  have hview : k + i < 64 := by omega
  simp [accRead_eq_signExtend, BitVec.getElem_signExtend, hstored, hview]

theorem toNat_accRead_low (s : State) (a : AccNum) : ((accRead s a).extractLsb' 0 32).toNat = (accOf s a).toNat % 2 ^ 32 := by
  rw [accRead_extractLsb'_eq_accOf s a (by omega), BitVec.extractLsb'_toNat, Nat.shiftRight_zero]

theorem toNat_accRead_high (s : State) (a : AccNum) :
    ((accRead s a).extractLsb' 32 32).toNat % 2 ^ 24 = (accOf s a).toNat / 2 ^ 32 := by
  rw [← BitVec.toNat_setWidth, BitVec.setWidth_extractLsb'_of_le (by omega), accRead_extractLsb'_eq_accOf s a (by omega),
    BitVec.extractLsb'_toNat, Nat.shiftRight_eq_div_pow]
  have hacc := (accOf s a).isLt
  omega

/-- Two words written to the view: the top eight bits are dropped (R51). -/
theorem toNat_setWidth_append (high low : Word) :
    ((high ++ low).setWidth 56 : Acc).toNat = high.toNat % 2 ^ 24 * 2 ^ 32 + low.toNat := by
  rw [BitVec.toNat_setWidth, BitVec.toNat_append, ← Nat.shiftLeft_add_eq_or_of_lt low.isLt, Nat.shiftLeft_eq]
  have hlow := low.isLt
  omega

theorem setAcc_writesAcc_append (s : State) (a : AccNum) (high low : Word) :
    WritesAcc s (finish 2 (.writes (setAcc a (high ++ low))) s) a
      (fun t => (accOf t a).toNat = high.toNat % 2 ^ 24 * 2 ^ 32 + low.toNat) :=
  (setAcc_writesAcc s a _).imp fun _ ht => by rw [ht, toNat_setWidth_append]

/-- Settles O50: the words read are the integer divided by a power of 2; a word written keeps the other part of the 56 bits. -/
theorem accumulatorMoves : Obligations.AccumulatorMoves := by
  intro s d a
  refine ⟨setReg_writesReg 2 s d (accRead_extractLsb'_eq_ofInt s a (by omega)),
    setReg_writesReg 2 s d (accRead_extractLsb'_eq_ofInt s a (by omega)), setReg_writesReg 2 s d ?low, ?writeHigh, ?writeLow⟩
  case low =>
    rw [accRead_extractLsb'_eq_ofInt s a (by omega), pow_zero, Int.ediv_one]
  case writeHigh =>
    rw [← toNat_accRead_low]
    exact setAcc_writesAcc_append s a _ _
  case writeLow =>
    rw [← toNat_accRead_high]
    exact setAcc_writesAcc_append s a _ _

/-! ### Saturation -/

theorem saturate_eq_ofInt (v : Word) {high low : Word} (h : low.toInt ≤ high.toInt) :
    saturate v high low = BitVec.ofInt 32 (max low.toInt (min high.toInt v.toInt)) := by
  simp only [saturate, BitVec.sle_iff_toInt_le]
  split
  case isTrue habove => rw [min_eq_left habove, max_eq_right h, BitVec.ofInt_toInt]
  case isFalse hnotAbove =>
    rw [min_eq_right (by omega)]
    split
    case isTrue hbelow => rw [max_eq_left hbelow, BitVec.ofInt_toInt]
    case isFalse hfits => rw [max_eq_right (by omega), BitVec.ofInt_toInt]

/-- Settles O51: each instruction writes one register; its value is that of the register clamped to the range of the size (D33). -/
theorem saturationResults : Obligations.SaturationResults := by
  intro s d r
  exact ⟨setReg_writesReg 4 s d (saturate_eq_ofInt _ (by decide)), setReg_writesReg 4 s d (saturate_eq_ofInt _ (by decide))⟩

end Sys2Proof.Machine
end

section
/-! Interrupt acceptance (`60_exceptions.md`, R344 to R347) and the coprocessor instructions (`47_coprocessor.md`): which event
`pendingEvent` accepts and what a step makes of it, then the one request of MVFCP, MVTCP and OPECP and their CDE. -/

namespace Sys2Proof.Machine

/-! ### The event accepted at a step boundary -/

/-- A source is the lowest pending one where it has an entry and no number below it is pending (R347, D11). -/
theorem lowestPending_eq_some {p : Platform} {pending : List Nat} {k : Nat} (hlt : k < p.ei.length) (hk : k ∈ pending)
    (hlow : ∀ j, j < k → j ∉ pending) : lowestPending p pending = some k := by
  rw [lowestPending, List.find?_range_eq_some]
  exact ⟨List.contains_iff_mem.mpr hk, List.mem_range.mpr hlt, fun j hj => by simpa using hlow j hj⟩

/-- A pending number with no entry names no source. -/
theorem lowestPending_eq_none {p : Platform} {pending : List Nat} (h : ∀ j ∈ pending, p.ei.length ≤ j) :
    lowestPending p pending = none := by
  rw [lowestPending, List.find?_range_eq_none]
  intro j hj
  have hnotPending : j ∉ pending := fun hmem => absurd hj (Nat.not_lt.mpr (h j hmem))
  simpa using hnotPending

/-- CPI is asked for where the request stands and a coprocessor is present (R301). -/
theorem cpiRequested_iff (s : State) :
    cpiRequested s = true ↔ s.cpiPending = true ∧ s.platform.coprocessors ≠ [] := by
  simp [cpiRequested]

theorem pendingEvent_ei {s : State} {k : Nat} (hie : psw_ie s.psw = true)
    (hlowest : lowestPending s.platform s.eiPending = some k) : pendingEvent s = some (.ei k) := by
  simp [pendingEvent, hie, hlowest]

/-- With no external interrupt accepted, CE and the request of a coprocessor decide, whatever IE is (D29). -/
theorem pendingEvent_without_ei {s : State} (h : psw_ie s.psw = false ∨ ∀ j ∈ s.eiPending, s.platform.ei.length ≤ j) :
    pendingEvent s = if psw_ce s.psw && cpiRequested s then some .cpi else none := by
  rcases h with hie | hnone
  · simp [pendingEvent, hie]
  · simp [pendingEvent, lowestPending_eq_none hnone]

/-- An interrupt accepted is the whole step; BPC is the pc of the unit that has not executed (R354, D10). -/
theorem step_enters_of_pending {s : State} {ev : Event} (hreset : s.resetRequest = false) (hpend : pendingEvent s = some ev) :
    Enters ev 0 s (step s) := by
  have hstep : step s = finish 0 (.raises ev) s := by
    simp [step, hreset, hpend, savedPc_self]
  rw [hstep]
  exact enters_finish_raises ev 0 s

/-- Settles O46: the three clauses are the three answers of `pendingEvent`, an external source, CPI and nothing. -/
theorem interruptAcceptance : Obligations.InterruptAcceptance := by
  intro s k hreset
  refine ⟨fun hie hlt hk hlow => ?external, fun hnoEi hce hcpi hpresent => ?cpi, fun hnoEi hnoCpi hout hstop => ?run⟩
  case external =>
    exact step_enters_of_pending hreset (pendingEvent_ei hie (lowestPending_eq_some hlt hk hlow))
  case cpi =>
    refine step_enters_of_pending hreset ?_
    rw [pendingEvent_without_ei hnoEi, hce, (cpiRequested_iff s).mpr ⟨hcpi, hpresent⟩]
    rfl
  case run =>
    have hnotAsked : ¬ (psw_ce s.psw = true ∧ cpiRequested s = true) := by
      rw [cpiRequested_iff]
      rintro ⟨hce, hcpi, hpresent⟩
      simp [hce, hcpi, hpresent] at hnoCpi
    have hpend : pendingEvent s = none := by
      rw [pendingEvent_without_ei hnoEi, if_neg (by rwa [Bool.and_eq_true])]
    rw [step_eq_execUnit ⟨hreset, hpend, hout, hstop⟩, fetchUnit, fetchAddress_eq_wordFloor]

/-! ### A coprocessor present and switched on, and one that is not -/

/-- The condition of CDE (R301, D12). -/
theorem copIsDisabled_eq_true_iff (s : State) (cpid : BitVec 12) :
    copIsDisabled s cpid = true ↔ cpid ∉ s.platform.coprocessors ∨ cpid ∈ s.copDisabled := by
  simp [copIsDisabled]

theorem copIsDisabled_eq_false_iff (s : State) (cpid : BitVec 12) :
    copIsDisabled s cpid = false ↔ cpid ∈ s.platform.coprocessors ∧ cpid ∉ s.copDisabled := by
  simp [copIsDisabled]

theorem copAnswer_of_answered {s : State} {v : Word} (hv : v ∈ s.copAnswers.head?) : copAnswer s = v := by
  rw [copAnswer, List.headD_eq_head?_getD, Option.mem_def.mp hv, Option.getD_some]

/-- A coprocessor that is absent or switched off raises CDE before anything is written or sent (R363). -/
theorem withCoprocessor_enters_cde {cpid : BitVec 12} {s : State} (h : copIsDisabled s cpid = true) (len : Word) (act : Action) :
    Enters .cde len s (finish len (withCoprocessor cpid s act) s) := by
  rw [withCoprocessor_of_disabled h]
  exact enters_finish_raises .cde len s

/-- With the coprocessor present and switched on the instruction writes its effect. -/
theorem withCoprocessor_runsTo {cpid : BitVec 12} {s : State} {e : Effect} {len : Word} {post : State → Prop}
    (h : copIsDisabled s cpid = false) (hpc : e.pc = none) (hpost : post (commit e (s.pc + len) s)) :
    RunsTo len (effectFootprint e) s (finish len (withCoprocessor cpid s (.writes e)) s) post := by
  rw [withCoprocessor_of_enabled h]
  exact runsTo_finish_writes hpc hpost

section
variable {s : State} {cpid : BitVec 12}

/-- MVFCP sends one read and moves its answer to a register (R303). -/
theorem mvfcp_runsTo (h : copIsDisabled s cpid = false) (d : RegNum) (cs : BitVec 4) (inst : BitVec 12) :
    RunsTo 4 { slots := [slotOf s d], cop := true, draws := s.copAnswers.isEmpty } s (exec (.mvfcp d cs inst cpid) s)
      (fun t => t.copRequests = s.copRequests ++ [.read cpid cs inst] ∧ t.copAnswers = s.copAnswers.drop 1
        ∧ ∀ v ∈ s.copAnswers.head?, readReg t d = v) := by
  refine withCoprocessor_runsTo h rfl ⟨rfl, rfl, fun v hv => ?_⟩
  rw [readReg_commit rfl rfl, commitRegs_cons, commitRegs_nil, readSlot_writeSlot_same, copAnswer_of_answered hv]

/-- An instruction that only sends a request: no core register changes (R304, R305). -/
theorem sends_runsTo (h : copIsDisabled s cpid = false) (request : CopRequest) :
    RunsTo 4 { cop := true } s (finish 4 (withCoprocessor cpid s (.writes { cop := some request })) s)
      (fun t => t.copRequests = s.copRequests ++ [request] ∧ t.copAnswers = s.copAnswers) :=
  withCoprocessor_runsTo h rfl ⟨rfl, rfl⟩

end

/-- Settles O52: all three check the coprocessor first; past the check MVFCP reads and the others only send. -/
theorem coprocessorResults : Obligations.CoprocessorResults := by
  intro s r cd cs inst cpid
  refine ⟨fun hpresent hon => ?enabled, fun habsent => ?disabled⟩
  case enabled =>
    have henabled := (copIsDisabled_eq_false_iff s cpid).mpr ⟨hpresent, hon⟩
    exact ⟨mvfcp_runsTo henabled r cs inst, sends_runsTo henabled _, sends_runsTo henabled _⟩
  case disabled =>
    have hcde := withCoprocessor_enters_cde ((copIsDisabled_eq_true_iff s cpid).mpr habsent) 4
    simp only [List.forall_mem_cons, List.not_mem_nil, false_imp_iff, implies_true, and_true]
    exact ⟨hcde _, hcde _, hcde _⟩

end Sys2Proof.Machine
end

section
/-! Parallel execution (`49_parallel_execution.md`): which unit a word is, what the two halves of an allowed pair write, and the
merged writes read storage by storage. -/

namespace Sys2Proof.Machine

/-! ### The unit of a word -/

section
variable {c : Encoding} {w : Word}

/-- Two halves that decode are a pair where the combination is allowed (R310, R314). -/
theorem decodeUnit_pair {u l : Instr} (h31 : w.getLsbD 31 = false) (h15 : w.getLsbD 15 = true)
    (hu : decode16 (w.extractLsb' 16 16) = some u) (hl : decode16 (w.extractLsb' 0 16) = some l) :
    decodeUnit c false w = if pairAllowed u l then .pair u l else .badPair := by
  simp only [decodeUnit, h31, h15, upperHalf, lowerHalf, hu, hl]

/-- The lower halfword is no entry of a 32-bit instruction or of a pair (R317, D7). -/
theorem decodeUnit_badEntry (h : w.getLsbD 31 = true ∨ w.getLsbD 15 = true) : decodeUnit c true w = .badEntry := by
  unfold decodeUnit
  rcases h with h | h
  · simp only [h]
  · rw [h]
    cases w.getLsbD 31 <;> rfl

end

theorem singleOr_ne_pair (rie : Bool) (len : Word) (decoded : Option Instr) (u l : Instr) :
    singleOr rie len decoded ≠ .pair u l := by
  cases decoded <;> cases rie <;> simp [singleOr]

/-- A unit that is a pair is one of the allowed combinations (R314, R315). -/
theorem pairAllowed_of_decodeUnit {c : Encoding} {lower : Bool} {w : Word} {u l : Instr} (h : decodeUnit c lower w = .pair u l) :
    pairAllowed u l = true := by
  unfold decodeUnit at h
  split at h
  case h_3 =>
    split at h
    · split at h
      case isTrue hallowed =>
        cases h
        exact hallowed
      case isFalse => cases h
    · split at h <;> cases h
  case h_5 => cases h
  all_goals exact absurd h (singleOr_ne_pair _ _ _ u l)

/-- Settles O6: with nothing before it a step executes the unit that the word at the pc decodes to. -/
theorem stepRunsDecodedInstruction : Obligations.StepRunsDecodedInstruction := by
  refine ⟨fun s i hfetch hunit => ?single, fun s u l hfetch hpc h31 h15 hu hl hallowed => ?pair⟩
  case single => rw [step_eq_execUnit hfetch, hunit, execUnit]
  case pair => rw [step_eq_execUnit hfetch, hpc, decodeUnit_pair h31 h15 hu hl, if_pos hallowed, execUnit]

/-- A left-only lower half, or a right-only upper half above anything but the alignment NOP, is no allowed pair (R314, R315). -/
theorem pairAllowed_eq_false {u l : Instr} (h : category l = some .left ∨ (category u = some .right ∧ l ≠ .nop)) :
    pairAllowed u l = false := by
  unfold pairAllowed
  rcases h with hl | ⟨hu, hnop⟩
  · rw [hl]
    cases category u with
    | none => rfl
    | some cu => cases cu <;> rfl
  · rw [hu]
    cases category l with
    | none => rfl
    | some cl =>
      cases cl with
      | both => exact beq_eq_false_iff_ne.mpr hnop
      | left | right => rfl

/-- The lower half of an allowed pair is `OS` or `-S` (R314, R315). -/
theorem lower_of_pairAllowed {u l : Instr} (h : pairAllowed u l = true) : category l = some .both ∨ category l = some .right := by
  unfold pairAllowed at h
  split at h
  case h_6 => cases h
  case h_1 hl | h_3 hl | h_5 hl => exact .inl hl
  case h_2 hl | h_4 hl => exact .inr hl

/-- An upper half that only the S pipe executes stands above the alignment NOP; any other is executed by the O pipe (R313 to
R315). -/
theorem upper_of_pairAllowed {u l : Instr} (h : pairAllowed u l = true) :
    (category u = some .left ∨ category u = some .both) ∨ (category u = some .right ∧ l = .nop) := by
  unfold pairAllowed at h
  split at h
  case h_5 hu _ => exact .inr ⟨hu, eq_of_beq h⟩
  case h_6 => cases h
  case h_1 hu _ | h_2 hu _ => exact .inl (.inl hu)
  case h_3 hu _ | h_4 hu _ => exact .inl (.inr hu)

/-- Settles O58: the decoder answers both placements with a unit that is refused. -/
theorem refusedPlacements : Obligations.RefusedPlacements := by
  intro s hfetch
  refine ⟨fun hpc h => ?entry, fun u l hpc h31 h15 hu hl hbad => ?pair⟩
  case entry => rw [step_eq_execUnit hfetch, hpc, decodeUnit_badEntry h, execUnit]
  case pair =>
    rw [step_eq_execUnit hfetch, hpc, decodeUnit_pair h31 h15 hu hl, pairAllowed_eq_false hbad, if_neg (by decide), execUnit]

/-- What the lower half writes is an effect on registers, C and accumulators. -/
theorem registerEffect_of_lower {l : Instr} (hl : category l = some .both ∨ category l = some .right) {pos : Position} {s : State}
    {e : Effect} (h : action pos l s = .writes e) : RegisterEffect e := by
  obtain ⟨e', hregs, hwrites⟩ := action_of_lower hl s
  exact Action.writes.inj ((hwrites pos).symm.trans h) ▸ hregs

/-- What it writes does not depend on where it stands. -/
theorem action_alone_of_lower {l : Instr} (hl : category l = some .both ∨ category l = some .right) {s : State} {e : Effect}
    (h : action .pair l s = .writes e) : action .alone l s = .writes e := by
  obtain ⟨e', -, hwrites⟩ := action_of_lower hl s
  rw [hwrites, ← hwrites .pair, h]

/-- Settles O55: the effect of such an instruction is one on registers, C and accumulators. -/
theorem lowerHalfNeverRaises : Obligations.LowerHalfNeverRaises := by
  intro s l hl
  obtain ⟨e, hregs, hwrites⟩ := action_of_lower hl s
  exact ⟨e, hwrites .pair, hregs.store, hregs.pc, hregs.psw, hregs.bpc, hregs.evb, hregs.lock, hregs.cop, hregs.copReads,
    hregs.device, hregs.deviceReads⟩

/-! ### What the O pipe leaves alone -/

/-- An effect that writes no accumulator and asks nothing of a coprocessor. -/
structure OPipeEffect (e : Effect) : Prop where
  acc0 : e.acc0 = none
  acc1 : e.acc1 = none
  cop : e.cop = none
  copReads : e.copReads = 0

/-- An effect that names none of them. -/
theorem oPipeEffect_of_none {e : Effect} (hacc0 : e.acc0 = none := by rfl) (hacc1 : e.acc1 = none := by rfl)
    (hcop : e.cop = none := by rfl) (hcopReads : e.copReads = 0 := by rfl) : OPipeEffect e :=
  ⟨hacc0, hacc1, hcop, hcopReads⟩

section
variable {s : State}

theorem oPipeEffect_withRead {e : Effect} (h : OPipeEffect e) (ea : Word) (n : Nat) : OPipeEffect (withRead ea n s e) := by
  obtain ⟨hacc0, hacc1, hcop, hcopReads⟩ := h
  unfold withRead
  split <;> exact ⟨hacc0, hacc1, hcop, hcopReads⟩

theorem oPipeEffect_withWrite {e : Effect} (h : OPipeEffect e) (ea : Word) (bytes : List Byte) :
    OPipeEffect (withWrite ea bytes s e) := by
  obtain ⟨hacc0, hacc1, hcop, hcopReads⟩ := h
  unfold withWrite
  split <;> exact ⟨hacc0, hacc1, hcop, hcopReads⟩

theorem oPipeEffect_loadAction (n : Nat) (ea : Word) (dest : RegNum) (ext : Word → Word) :
    (loadAction n ea dest ext s).Commits OPipeEffect :=
  commits_checked (commits_writes (oPipeEffect_withRead oPipeEffect_of_none _ _))

theorem oPipeEffect_storeAction (ea : Word) (bytes : List Byte) (regs : List (Slot × Word)) :
    (storeAction ea bytes regs s).Commits OPipeEffect :=
  commits_checked (commits_writes (oPipeEffect_withWrite oPipeEffect_of_none _ _))

theorem oPipeEffect_branchIf (c : Bool) (target : Word) : (branchIf c target).Commits OPipeEffect := by
  cases c <;> exact commits_writes oPipeEffect_of_none

theorem oPipeEffect_branchLinkIf (c : Bool) (target : Word) : (branchLinkIf c target s).Commits OPipeEffect := by
  cases c <;> exact commits_writes oPipeEffect_of_none

theorem oPipeEffect_skipAction (pos : Position) (c : Bool) : (skipAction pos c s).Commits OPipeEffect := by
  cases pos
  · exact commits_ite (commits_writes oPipeEffect_of_none) (commits_stops _)
  · exact commits_writes oPipeEffect_of_none

theorem oPipeEffect_mvfcAction (dest : RegNum) (cr : BitVec 4) : (mvfcAction dest cr s).Commits OPipeEffect := by
  unfold mvfcAction
  split
  · exact commits_writes oPipeEffect_of_none
  · exact commits_reservedControl (fun _ => commits_writes oPipeEffect_of_none)

theorem oPipeEffect_writeControl (cr : BitVec 4) (v : Word) : (writeControl cr v s).Commits OPipeEffect := by
  unfold writeControl
  split
  · exact commits_checkedPm (commits_writes oPipeEffect_of_none)
  · exact commits_writes oPipeEffect_of_none
  · exact commits_writes oPipeEffect_of_none
  · exact commits_writes oPipeEffect_of_none
  · exact commits_ite (commits_stops _) (commits_writes oPipeEffect_of_none)
  · exact commits_writes oPipeEffect_of_none
  · exact commits_reservedControl (fun _ => commits_writes oPipeEffect_of_none)

end

/-- The 16-bit instructions that the O pipe can execute write no accumulator and ask nothing of a coprocessor (R313). -/
theorem action_oPipeEffect {i : Instr} (h : category i = some .left ∨ category i = some .both) (pos : Position) (s : State) :
    (action pos i s).Commits OPipeEffect := by
  cases i with dsimp only [action]
  | ldInd | ldbInd | ldubInd | ldhInd | lduhInd => exact oPipeEffect_loadAction _ _ _ _
  | ldPost =>
    exact commits_ite (commits_stops _) (commits_checked (commits_writes (oPipeEffect_withRead oPipeEffect_of_none _ _)))
  | lock => exact commits_checked (commits_writes (oPipeEffect_withRead oPipeEffect_of_none _ _))
  | stInd | stbInd | stbPost | sthInd | sthPost => exact oPipeEffect_storeAction _ _ _
  | stPreInc | stPreDec => exact commits_ite (commits_stops _) (oPipeEffect_storeAction _ _ _)
  | unlock =>
    exact commits_ite (commits_checked (commits_writes (oPipeEffect_withWrite oPipeEffect_of_none _ _)))
      (commits_writes oPipeEffect_of_none)
  | mvfc => exact oPipeEffect_mvfcAction _ _
  | mvtc => exact commits_privileged (oPipeEffect_writeControl _ _)
  | setpsw => exact commits_privileged (commits_checkedPm (commits_writes oPipeEffect_of_none))
  | clrpsw | rte => exact commits_privileged (commits_writes oPipeEffect_of_none)
  | bc8 | bnc8 | bra8 | jc | jmp | jnc => exact oPipeEffect_branchIf _ _
  | bcl8 | bl8 | bncl8 | jl => exact oPipeEffect_branchLinkIf _ _
  | sc | snc => exact oPipeEffect_skipAction _ _
  | cmp | cmpeq | cmpu | cmpz | pcmpbz | btst | addv | addx | subv | subx | ldi8 | mv | add | addi | neg | sub | and | not | or
  | xor | sll | slli | sra | srai | srl | srli | nop | trap =>
    exact commits_writes oPipeEffect_of_none
  | _ => rcases h with h | h <;> cases h

/-! ### The merged effect of an allowed pair -/

/-- What the merged effect rests on in an allowed pair that writes: the partner writes registers, C and accumulators, the upper
half asks nothing of a coprocessor, and of the two at most one writes accumulators. -/
structure PairEffects (eu el : Effect) : Prop where
  lower : RegisterEffect el
  cop : eu.cop = none
  copReads : eu.copReads = 0
  accumulators : (eu.acc0 = none ∧ eu.acc1 = none) ∨ (el.acc0 = none ∧ el.acc1 = none)

theorem pairEffects_of_pairAllowed {u l : Instr} {s : State} {eu el : Effect} (h : pairAllowed u l = true)
    (hu : action .pair u s = .writes eu) (hl : action .pair l s = .writes el) : PairEffects eu el := by
  have hlower := registerEffect_of_lower (lower_of_pairAllowed h) hl
  rcases upper_of_pairAllowed h with hupper | ⟨hright, rfl⟩
  · obtain ⟨hacc0, hacc1, hcop, hcopReads⟩ := action_oPipeEffect hupper .pair s eu hu
    exact ⟨hlower, hcop, hcopReads, .inl ⟨hacc0, hacc1⟩⟩
  · have hupper := registerEffect_of_lower (.inr hright) hu
    obtain rfl : noEffect = el := Action.writes.inj hl
    exact ⟨hlower, hupper.cop, hupper.copReads, .inr ⟨rfl, rfl⟩⟩

/-- No storage is written by both halves. -/
theorem regsCollide_eq_false {u l : List (Slot × Word)} (h : ∀ sl, writesSlot u sl = false ∨ writesSlot l sl = false) :
    regsCollide u l = false := by
  refine List.any_eq_false.mpr fun w hw => ?_
  have hu : writesSlot u w.1 = true := List.any_eq_true.mpr ⟨w, hw, beq_self_eq_true w.1⟩
  rcases h w.1 with h | h
  · rw [hu] at h
    cases h
  · rw [h]
    exact Bool.false_ne_true

/-- Of two optional values at most one of which is there, the second where it is there. -/
theorem getD_or_of_one {α : Type} {a b : Option α} (h : a = none ∨ b = none) (d : α) :
    (a.or b).getD d = if b.isSome then b.getD d else a.getD d := by
  rcases h with rfl | rfl
  · cases b <;> rfl
  · simp

section
variable {eu el : Effect} (next : Word) (s : State)

/-- C of the merged effect is the partner's where that alone writes it (R320). -/
theorem psw_c_commit_mergeEffects_of_lower (heu : eu.cond = none) (hel : el.cond ≠ none) :
    psw_c (commit (mergeEffects s.draws eu el) next s).psw = psw_c (commit el next s).psw := by
  obtain ⟨c, hc⟩ := Option.ne_none_iff_exists'.mp hel
  simp [mergeEffects, commitPsw, heu, hc]

/-- Without a free value in a half and without a collision the pair draws none. -/
theorem draws_commit_mergeEffects (heu : eu.draws = false) (hel : el.draws = false)
    (hregs : ∀ sl, writesSlot eu.regs sl = false ∨ writesSlot el.regs sl = false) (hcond : eu.cond = none ∨ el.cond = none) :
    (commit (mergeEffects s.draws eu el) next s).draws = s.draws := by
  have hc : (eu.cond.isSome && el.cond.isSome) = false := by
    rcases hcond with hcond | hcond <;> simp [hcond]
  simp [mergeEffects, heu, hel, regsCollide_eq_false hregs, hc]

section
variable (h : PairEffects eu el)
include h

/-- It is the upper half's where the partner leaves it. -/
theorem psw_c_commit_mergeEffects_of_upper (hel : el.cond = none) :
    psw_c (commit (mergeEffects s.draws eu el) next s).psw = psw_c (commit eu next s).psw := by
  simp [mergeEffects, commitPsw, hel, h.lower.psw]

/-- Every other bit of the PSW is the upper half's. -/
theorem getLsbD_commit_mergeEffects_psw {b : Nat} (hb : b ≠ 0) :
    (commit (mergeEffects s.draws eu el) next s).psw.getLsbD b = (commit eu next s).psw.getLsbD b := by
  rw [commit_psw, commit_psw, getLsbD_commitPsw_of_ne _ _ hb, getLsbD_commitPsw_of_ne _ _ hb, mergeEffects, h.lower.psw,
    Option.or_none]

/-- An accumulator is that of the half that writes it. -/
theorem accumulators_commit_mergeEffects :
    (commit (mergeEffects s.draws eu el) next s).acc0 = (if el.acc0.isSome then commit el next s else commit eu next s).acc0
      ∧ (commit (mergeEffects s.draws eu el) next s).acc1
        = (if el.acc1.isSome then commit el next s else commit eu next s).acc1 := by
  rw [apply_ite State.acc0, apply_ite State.acc1]
  exact ⟨getD_or_of_one (h.accumulators.imp And.left And.left) s.acc0,
    getD_or_of_one (h.accumulators.imp And.right And.right) s.acc1⟩

end

end

/-! ### Three pairs -/

/-- Two register writes to different registers stand side by side (R321). -/
theorem mergeEffects_setReg_of_ne {a c : RegNum} (h : a ≠ c) (n : Nat) (s : State) (v w : Word) :
    mergeEffects n (setReg s a v) (setReg s c w) = { regs := [(slotOf s a, v), (slotOf s c, w)] } := by
  have hslot := (slotOf_injective s).ne h
  simp [mergeEffects, setReg, mergeRegs, regsCollide, writesSlot, hslot, hslot.symm]

/-- Two writes of one register leave it open (R322, D34). -/
theorem mergeEffects_setReg_same (a : RegNum) (n : Nat) (s : State) (v w : Word) :
    mergeEffects n (setReg s a v) (setReg s a w) = { regs := [(slotOf s a, Config.freeWord n 2)], draws := true } := by
  simp [mergeEffects, setReg, mergeRegs, regsCollide, writesSlot]

theorem lessSigned_eq_decide (a b : Word) : lessSigned a b = decide (a.toInt < b.toInt) :=
  Bool.eq_iff_iff.mpr ((lessSigned_iff a b).trans decide_eq_true_iff.symm)

section
variable (s : State) (a b c d : RegNum)

theorem mv_pair_of_ne (h : a ≠ c) : RunsTo 4 { slots := [slotOf s a, slotOf s c] } s (execPair (.mv a b) (.mv c d) s)
    (fun t => readReg t a = readReg s b ∧ readReg t c = readReg s d) := by
  have hslot := (slotOf_injective s).ne h
  have hmerge := mergeEffects_setReg_of_ne h s.draws s (readReg s b) (readReg s d)
  rw [execPair_of_writes (eu := setReg s a (readReg s b)) (el := setReg s c (readReg s d)) rfl rfl rfl, hmerge]
  refine runsTo_finish_writes (len := 4) rfl ⟨?_, ?_⟩
  · rw [readReg_commit rfl rfl, commitRegs_cons, commitRegs_cons, commitRegs_nil, readSlot_writeSlot_of_ne _ _ hslot,
      readSlot_writeSlot_same]
  · rw [readReg_commit rfl rfl, commitRegs_cons, commitRegs_cons, commitRegs_nil, readSlot_writeSlot_same]

theorem mv_pair_same : RunsTo 4 { slots := [slotOf s a], draws := true } s (execPair (.mv a b) (.mv a d) s) (fun _ => True) := by
  have hmerge := mergeEffects_setReg_same a s.draws s (readReg s b) (readReg s d)
  rw [execPair_of_writes (eu := setReg s a (readReg s b)) (el := setReg s a (readReg s d)) rfl rfl rfl, hmerge]
  exact runsTo_finish_writes (len := 4) rfl trivial

theorem bc8_cmp_taken (d8 : BitVec 8) (hc : psw_c s.psw = true) :
    JumpsTo (relTarget s.pc d8) { cond := true } s (execPair (.bc8 d8) (.cmp a b) s)
      (fun t => psw_c t.psw = decide ((readReg s a).toInt < (readReg s b).toInt)) := by
  have hbranch : action .pair (.bc8 d8) s = .writes (jumpTo (relTarget s.pc d8)) := by
    rw [← branchTarget_eq_relTarget]
    exact branchIf_of_taken hc
  rw [execPair_of_writes hbranch rfl (el := setCond (lessSigned (readReg s a) (readReg s b))) rfl, ← lessSigned_eq_decide]
  exact jumpsTo_finish_writes (len := 4) rfl (psw_c_withCond _ _)

theorem bc8_cmp_notTaken (d8 : BitVec 8) (hc : psw_c s.psw = false) :
    RunsTo 4 { cond := true } s (execPair (.bc8 d8) (.cmp a b) s)
      (fun t => psw_c t.psw = decide ((readReg s a).toInt < (readReg s b).toInt)) := by
  have hbranch : action .pair (.bc8 d8) s = .writes noEffect := branchIf_of_not_taken hc
  rw [execPair_of_writes hbranch rfl (el := setCond (lessSigned (readReg s a) (readReg s b))) rfl, ← lessSigned_eq_decide]
  exact runsTo_finish_writes (len := 4) rfl (psw_c_withCond _ _)

/-- Two writes of C leave it open (R323, D34). -/
theorem cmp_cmpz_pair : RunsTo 4 { cond := true, draws := true } s (execPair (.cmp a b) (.cmpz c) s) (fun _ => True) :=
  runsTo_finish_writes (len := 4) (e := { cond := some (Config.freeBit s.draws 0), draws := true }) rfl trivial

end

/-- Settles O53: the merged effect of an allowed pair, read place by place, is that of one half; the three pairs are merged effects
written out. -/
theorem pairReadsStateBefore : Obligations.PairReadsStateBefore := by
  refine ⟨fun s u l eu el hallowed hu hcancels hl => ?merged, fun s a b c d d8 => ?threePairs⟩
  case merged =>
    have hpair := pairEffects_of_pairAllowed hallowed hu hl
    have hlower := hpair.lower
    obtain ⟨hacc0, hacc1⟩ := accumulators_commit_mergeEffects (s.pc + 4) s hpair
    refine ⟨?lowerAlone, fun hsc hsnc htrap => ?upperAlone, _, _, _, execPair_of_writes hu hcancels hl, rfl, rfl,
      fun sl hsl => ?upperSlot, fun sl hsl => ?lowerSlot, psw_c_commit_mergeEffects_of_upper _ s hpair,
      psw_c_commit_mergeEffects_of_lower _ s, fun b => getLsbD_commit_mergeEffects_psw _ s hpair, ?evb, ?evbWritten, ?bpc,
      ?lock, ?mem, ?written, ?deviceAccesses, ?deviceAnswers, ?copRequests, ?copAnswers, hacc0, hacc1, ?pc, commit_platform _ _ s,
      commit_resetRequest _ _ s, commit_eiPending _ _ s, commit_cpiPending _ _ s, commit_copDisabled _ _ s,
      draws_commit_mergeEffects _ s⟩
    case lowerAlone => exact ⟨_, exec_of_writes (action_alone_of_lower (lower_of_pairAllowed hallowed) hl)⟩
    case upperAlone => exact ⟨_, exec_of_writes ((action_alone_eq_pair s hsc hsnc htrap).trans hu)⟩
    case upperSlot =>
      rw [readSlot_commit, readSlot_commit]
      exact readSlot_mergeRegs_of_upper hsl
    case lowerSlot =>
      rw [readSlot_commit, readSlot_commit]
      exact readSlot_mergeRegs_of_lower hsl
    case copRequests => simp [mergeEffects, hpair.cop, hlower.cop]
    case copAnswers => simp [mergeEffects, hpair.copReads, hlower.copReads]
    all_goals
      rw [mergeEffects_of_registerEffect hlower]
      rfl
  case threePairs =>
    exact ⟨mv_pair_of_ne s a b c d, fun h => h ▸ mv_pair_same s a b d, bc8_cmp_taken s a b d8, bc8_cmp_notTaken s a b d8,
      cmp_cmpz_pair s a b c⟩

end Sys2Proof.Machine
end

section
/-! EIT (`60_exceptions.md`): the entry bit by bit, the return that undoes it, the vectors, and what user mode can make of the PSW:
its controls are out of reach but for an EIT entry. -/

namespace Sys2Proof.Machine

/-! ### The PSW and the vector address of an entry -/

/-- The bits that EIT entry saves and clears, whatever the platform's policy says of SM (R350, R353). -/
theorem entryPsw_bits_of_policy (clearsSM : Bool) (p : Word) :
    psw_bsm (entryPsw clearsSM p) = psw_sm p ∧ psw_bie (entryPsw clearsSM p) = psw_ie p
      ∧ psw_bpm (entryPsw clearsSM p) = psw_pm p
      ∧ psw_bce (entryPsw clearsSM p) = psw_ce p ∧ psw_bc (entryPsw clearsSM p) = psw_c p
      ∧ psw_ie (entryPsw clearsSM p) = false ∧ psw_pm (entryPsw clearsSM p) = false ∧ psw_ce (entryPsw clearsSM p) = false
      ∧ psw_sm (entryPsw clearsSM p) = (!clearsSM && psw_sm p) := by
  cases clearsSM <;>
    simp [entryPsw, psw_sm, psw_bsm, psw_ie, psw_bie, psw_pm, psw_bpm, psw_ce, psw_bce, psw_c, psw_bc]

/-- The entry clears C and no other bit of what it saves and keeps. -/
theorem getLsbD_enterEIT_psw (ev : Event) (ret : Word) (s : State) {b : Nat} (hb : b ≠ 0) :
    (enterEIT ev ret s).psw.getLsbD b = (entryPsw (eventEntry s.platform ev).clearsSM s.psw).getLsbD b := by
  rw [enterEIT_psw]
  exact getLsbD_withCond_of_ne _ _ hb

/-- An EIT entry is into supervisor mode (R350). -/
theorem userMode_enterEIT (ev : Event) (ret : Word) (s : State) : userMode (enterEIT ev ret s) = false := by
  obtain ⟨-, -, -, -, -, -, hpm, -⟩ := entryPsw_bits_of_policy (eventEntry s.platform ev).clearsSM s.psw
  exact (getLsbD_enterEIT_psw ev ret s (by decide)).trans hpm

/-- The vector base: `AT_BIT`, the fifteen writable bits of EVB, and zeros (R31). -/
theorem vectorBase_eq_append (s : State) :
    evbRead s &&& 0xFFFF0000 = BitVec.ofBool s.platform.atBit ++ s.evb.extractLsb' 16 15 ++ 0#16 := by
  have mask : ∀ i < 32, (0xFFFF0000 : Word).getLsbD i = decide (16 ≤ i) := by decide
  apply BitVec.eq_of_getLsbD_eq
  intro i hi
  rw [BitVec.getLsbD_and, mask i hi, getLsbD_evbRead s hi, BitVec.getLsbD_append, BitVec.getLsbD_append]
  by_cases hlow : i < 16
  · simp [hlow, show ¬ 16 ≤ i by omega]
  · by_cases htop : i = 31
    · simp [htop]
    · have hfield : i - 16 < 15 := by omega
      simp [hlow, htop, hfield, show 16 ≤ i by omega, show 16 + (i - 16) = i by omega]

theorem toNat_vectorBase (s : State) :
    (evbRead s &&& 0xFFFF0000).toNat = (if s.platform.atBit then 2 ^ 31 else 0) + s.evb.toNat / 2 ^ 16 % 2 ^ 15 * 2 ^ 16 := by
  have hfield := (s.evb.extractLsb' 16 15).isLt
  rw [vectorBase_eq_append, BitVec.toNat_append, BitVec.toNat_append, ← Nat.shiftLeft_add_eq_or_of_lt hfield,
    BitVec.extractLsb'_toNat, Nat.shiftRight_eq_div_pow, BitVec.toNat_ofBool, BitVec.toNat_ofNat, Nat.zero_mod, Nat.or_zero,
    Nat.shiftLeft_eq, Nat.shiftLeft_eq, Nat.add_mul]
  cases s.platform.atBit <;> rfl

/-- The entry of an event as an integer: AT, the base of EVB, four bytes for each word index (R350, R351). -/
theorem toNat_vectorAddress (s : State) (ev : Event) :
    (vectorAddress s ev).toNat = (if s.platform.atBit then 2 ^ 31 else 0) + s.evb.toNat / 2 ^ 16 % 2 ^ 15 * 2 ^ 16
      + (eventEntry s.platform ev).index.toNat * 4 := by
  have hindex := (eventEntry s.platform ev).index.isLt
  have hoffset : (((eventEntry s.platform ev).index ++ 0#2).setWidth 32).toNat = (eventEntry s.platform ev).index.toNat * 4 := by
    rw [BitVec.toNat_setWidth, BitVec.toNat_append, Nat.shiftLeft_eq, BitVec.toNat_ofNat, Nat.zero_mod, Nat.or_zero]
    omega
  rw [vectorAddress, BitVec.toNat_add, toNat_vectorBase, hoffset]
  split <;> omega

/-- Settles O41: the frame of the entry, the bits of `entryPsw` with C cleared, BPC made even, the vector address as an integer. -/
theorem eitEntryState : Obligations.EitEntryState := by
  intro s ev ret
  have hbits {b : Nat} (hb : b ≠ 0) := getLsbD_enterEIT_psw ev ret s hb
  obtain ⟨hbsm, hbie, hbpm, hbce, hbc, hie, hpm, hce, hsm⟩ :=
    entryPsw_bits_of_policy (eventEntry s.platform ev).clearsSM s.psw
  have hreserved : (enterEIT ev ret s).psw &&& ~~~0x0000CDCD = 0 := withCond_reserved (entryPsw_reserved _ _) _
  have hbpc : (enterEIT ev ret s).bpc.toNat = ret.toNat / 2 * 2 := by
    rw [enterEIT_bpc, and_not_one_eq_ofNat, BitVec.toNat_ofNat]
    omega
  exact ⟨frame_enterEIT ev ret s, (hbits (by decide)).trans hbsm, (hbits (by decide)).trans hbie, (hbits (by decide)).trans hbpm,
    (hbits (by decide)).trans hbce, (hbits (by decide)).trans hbc, (hbits (by decide)).trans hie, (hbits (by decide)).trans hpm,
    (hbits (by decide)).trans hce, psw_c_withCond _ _, (hbits (by decide)).trans hsm, hreserved, hbpc, toNat_vectorAddress s ev⟩

/-! ### The return right after an entry -/

/-- What either of two changes may write. -/
def Footprint.union (f g : Footprint) : Footprint where
  slots := f.slots ++ g.slots
  cond := f.cond || g.cond
  psw := f.psw || g.psw
  evb := f.evb || g.evb
  bpc := f.bpc || g.bpc
  acc0 := f.acc0 || g.acc0
  acc1 := f.acc1 || g.acc1
  lock := f.lock || g.lock
  bytes := f.bytes ++ g.bytes
  cop := f.cop || g.cop
  device := f.device || g.device
  draws := f.draws || g.draws

/-- A value that each of two changes keeps unless its flag is set, both keep unless one of the flags is. -/
theorem eq_of_keeps {α : Type} {a b : Bool} {x y z : α} (hxy : a = false → y = x) (hyz : b = false → z = y)
    (h : (a || b) = false) : z = x := by
  obtain ⟨ha, hb⟩ := Bool.or_eq_false_iff.mp h
  exact (hyz hb).trans (hxy ha)

/-- Two changes one after the other stay within both footprints. -/
theorem Frame.trans {f g : Footprint} {s t u : State} (hst : Frame f s t) (htu : Frame g t u) : Frame (f.union g) s u where
  slots sl h := by
    simp only [Footprint.union, List.mem_append, not_or] at h
    exact (htu.slots sl h.2).trans (hst.slots sl h.1)
  psw h i hi := eq_of_keeps (fun hf => hst.psw hf i hi) (fun hg => htu.psw hg i hi) h
  cond hpsw hcond := by
    obtain ⟨hf, hg⟩ := Bool.or_eq_false_iff.mp hpsw
    exact eq_of_keeps (hst.cond hf) (htu.cond hg) hcond
  evb h := ⟨eq_of_keeps (fun hf => (hst.evb hf).1) (fun hg => (htu.evb hg).1) h,
    eq_of_keeps (fun hf => (hst.evb hf).2) (fun hg => (htu.evb hg).2) h⟩
  bpc := eq_of_keeps hst.bpc htu.bpc
  acc0 := eq_of_keeps hst.acc0 htu.acc0
  acc1 := eq_of_keeps hst.acc1 htu.acc1
  lock := eq_of_keeps hst.lock htu.lock
  mem a h := by
    simp only [Footprint.union, List.mem_append, not_or] at h
    exact (htu.mem a h.2).trans (hst.mem a h.1)
  written n := by
    rw [htu.written, hst.written]
    simp only [Footprint.union, List.mem_append, or_and_right, exists_or, or_assoc]
  cop h := ⟨eq_of_keeps (fun hf => (hst.cop hf).1) (fun hg => (htu.cop hg).1) h,
    eq_of_keeps (fun hf => (hst.cop hf).2) (fun hg => (htu.cop hg).2) h⟩
  device h := ⟨eq_of_keeps (fun hf => (hst.device hf).1) (fun hg => (htu.device hg).1) h,
    eq_of_keeps (fun hf => (hst.device hf).2) (fun hg => (htu.device hg).2) h⟩
  draws := eq_of_keeps hst.draws htu.draws
  inputs := by
    obtain ⟨hreset, hei, hcpi, hdisabled⟩ := hst.inputs
    obtain ⟨hreset', hei', hcpi', hdisabled'⟩ := htu.inputs
    exact ⟨hreset'.trans hreset, hei'.trans hei, hcpi'.trans hcpi, hdisabled'.trans hdisabled⟩
  platform := htu.platform.trans hst.platform

/-- Settles O44: the entry is into supervisor mode, so RTE returns what the entry has saved. -/
theorem returnUndoesEntry : Obligations.ReturnUndoesEntry := by
  intro s ev ret heven
  have hbits {b : Nat} (hb : b ≠ 0) := getLsbD_enterEIT_psw ev ret s hb
  obtain ⟨hbsm, hbie, hbpm, hbce, hbc, -⟩ := entryPsw_bits_of_policy (eventEntry s.platform ev).clearsSM s.psw
  obtain ⟨u, hexec, hpc, hframe, hsm, hie, hpm, hce, hc, -⟩ := returnResult _ (userMode_enterEIT ev ret s)
  have hret : u.pc = ret := by
    rw [hpc, ← and_not_one_eq_ofNat, enterEIT_bpc, and_not_one_of_even heven, and_not_one_of_even heven]
  exact ⟨u, hexec, hret, hsm.trans ((hbits (by decide)).trans hbsm), hie.trans ((hbits (by decide)).trans hbie),
    hpm.trans ((hbits (by decide)).trans hbpm), hce.trans ((hbits (by decide)).trans hbce),
    hc.trans ((hbits (by decide)).trans hbc), (frame_enterEIT ev ret s).trans hframe⟩

/-! ### Distinct vectors -/

/-- Where the word index of an event stands in the platform's list of all indices. -/
def eventPosition : Event → Nat
  | .rie => 0
  | .pie => 1
  | .ae => 2
  | .cde => 3
  | .cpi => 4
  | .trap n => n.toNat + 5
  | .ei k => k + 16 + 5

/-- The event at a position of that list. -/
def eventAt : Nat → Event
  | 0 => .rie
  | 1 => .pie
  | 2 => .ae
  | 3 => .cde
  | 4 => .cpi
  | n + 5 => if n < 16 then .trap (BitVec.ofNat 4 n) else .ei (n - 16)

theorem eventAt_eventPosition : Function.LeftInverse eventAt eventPosition := by
  intro ev
  cases ev with
  | rie | pie | ae | cde | cpi => rfl
  | trap n => simp [eventPosition, eventAt, n.isLt]
  | ei k => simp [eventPosition, eventAt]

/-- The list of all indices holds the word index of an event at its position, an external source where it has an entry. -/
theorem indices_getElem?_eventPosition {p : Platform} {ev : Event} (hsource : ∀ k, ev = .ei k → k < p.ei.length) :
    p.indices[eventPosition ev]? = some (eventEntry p ev).index := by
  cases ev with
  | rie | pie | ae | cde | cpi => rfl
  | trap n =>
    have hn : n.toNat < p.trap.toList.length := by simpa using n.isLt
    change (p.trap.toList ++ p.ei.map (fun e => e.index))[n.toNat]? = _
    rw [List.getElem?_append_left hn]
    simp [eventEntry]
  | ei k =>
    have hk := hsource k rfl
    have htrap : p.trap.toList.length = 16 := by simp
    change (p.trap.toList ++ p.ei.map (fun e => e.index))[k + 16]? = _
    rw [List.getElem?_append_right (by omega), htrap, Nat.add_sub_cancel]
    simp [eventEntry, hk]

/-- Equal vector addresses are equal word indices. -/
theorem index_eq_of_vectorAddress_eq {s : State} {e1 e2 : Event} (h : vectorAddress s e1 = vectorAddress s e2) :
    (eventEntry s.platform e1).index = (eventEntry s.platform e2).index := by
  have hnat := congrArg BitVec.toNat h
  rw [toNat_vectorAddress, toNat_vectorAddress] at hnat
  exact BitVec.eq_of_toNat_eq (by omega)

/-- Settles O45: the word indices stand at distinct positions of a list without duplicates (D8). -/
theorem vectorsAreDistinct : Obligations.VectorsAreDistinct := by
  intro s e1 e2 hwf hsource h
  have hnodup : s.platform.indices.Nodup := by
    rw [Platform.wf, Bool.and_eq_true, decide_eq_true_eq] at hwf
    exact hwf.1
  have h1 := indices_getElem?_eventPosition (p := s.platform) (ev := e1) fun k hk => hsource k (.inl hk)
  have h2 := indices_getElem?_eventPosition (p := s.platform) (ev := e2) fun k hk => hsource k (.inr hk)
  rw [← index_eq_of_vectorAddress_eq h] at h2
  exact eventAt_eventPosition.injective
    ((List.getElem?_inj (List.getElem?_eq_some_iff.mp h1).1 hnodup).mp (h1.trans h2.symm))

/-! ### The PSW in user mode -/

/-- In user mode a privileged instruction commits nothing (R362). -/
theorem commits_privileged_of_user {P : Effect → Prop} {s : State} (h : userMode s = true) (act : Action) :
    (privileged s act).Commits P := by
  rw [privileged_of_user h]
  exact commits_raises .pie

/-- In user mode TRAP is the only instruction that commits a write of the whole PSW, and its effect is an EIT entry (R265, R371). -/
theorem action_psw_of_user {s : State} (huser : userMode s = true) (pos : Position) (i : Instr) :
    (action pos i s).Commits (fun e => e.psw = none ∨ ∃ ev ret, e = entryEffect ev ret s) := by
  cases hc : controlWriter i with
  | false => exact fun e he => .inl (action_dataEffect hc pos s e he).psw
  | true =>
    cases i with
    | mvtc | setpsw | clrpsw | rte => exact commits_privileged_of_user huser _
    | trap n => exact commits_writes (.inr ⟨.trap n, _, rfl⟩)
    | _ => cases hc

theorem StepOf.pairAllowed {u l : Instr} {len : Word} {s : State} {o : Result} (h : StepOf [u, l] len s o) :
    pairAllowed u l = true := by
  rcases h with ⟨-, -, his, -⟩ | ⟨u', l', hallowed, -, his, -⟩ | ⟨i, -, his, -⟩
  · cases hunit : fetchUnit s with
    | pair u' l' =>
      rw [hunit] at his
      cases his
      exact pairAllowed_of_decodeUnit hunit
    | _ =>
      rw [hunit] at his
      cases his
  · cases his
    exact hallowed
  · cases his

/-- An effect without a write of the whole PSW writes C of it at most. -/
theorem getLsbD_commit_psw_of_none {e : Effect} (h : e.psw = none) (next : Word) (s : State) {b : Nat} (hb : b ≠ 0) :
    (commit e next s).psw.getLsbD b = s.psw.getLsbD b := by
  rw [commit_psw, getLsbD_commitPsw_of_ne _ _ hb, h, Option.getD_none]

/-- From `s` to `t` the PSW but for C, BPC and the pc are those of an EIT entry. -/
structure EntersButCond (ev : Event) (ret : Word) (s t : State) : Prop where
  psw : ∀ b, b ≠ 0 → t.psw.getLsbD b = (enterEIT ev ret s).psw.getLsbD b
  bpc : t.bpc = (enterEIT ev ret s).bpc
  pc : t.pc = vectorAddress s ev

theorem EntersButCond.of_eq {ev : Event} {ret : Word} {s t : State} (h : t = enterEIT ev ret s) : EntersButCond ev ret s t :=
  h ▸ ⟨fun _ _ => rfl, rfl, rfl⟩

theorem EntersButCond.userMode {ev : Event} {ret : Word} {s t : State} (h : EntersButCond ev ret s t) : userMode t = false :=
  (h.psw 3 (by decide)).trans (userMode_enterEIT ev ret s)

section
variable {s : State} (huser : userMode s = true) (next : Word)
include huser

/-- One instruction's effect in user mode: the PSW but for C is kept, or the effect is an EIT entry. -/
theorem commit_of_user {pos : Position} {i : Instr} {e : Effect} (hi : action pos i s = .writes e) :
    (∀ b, b ≠ 0 → (commit e next s).psw.getLsbD b = s.psw.getLsbD b) ∨ ∃ ev ret, commit e next s = enterEIT ev ret s := by
  rcases action_psw_of_user huser pos i e hi with hnone | ⟨ev, ret, rfl⟩
  · exact .inl fun b hb => getLsbD_commit_psw_of_none hnone next s hb
  · exact .inr ⟨ev, ret, rfl⟩

/-- The same of an upper half's effect merged with that of its partner, which may write C. -/
theorem commit_mergeEffects_of_user {u : Instr} {eu el : Effect} (hu : action .pair u s = .writes eu) (hl : RegisterEffect el) :
    (∀ b, b ≠ 0 → (commit (mergeEffects s.draws eu el) next s).psw.getLsbD b = s.psw.getLsbD b)
      ∨ ∃ ev ret, EntersButCond ev ret s (commit (mergeEffects s.draws eu el) next s) := by
  rcases action_psw_of_user huser .pair u eu hu with hnone | ⟨ev, ret, rfl⟩
  · refine .inl fun b hb => getLsbD_commit_psw_of_none ?_ next s hb
    simp [mergeEffects, hnone, hl.psw]
  · exact .inr ⟨ev, ret, fun b hb => (getLsbD_psw_mergeEffects rfl next s hb).trans (getLsbD_enterEIT_psw ev ret s hb).symm,
      rfl, rfl⟩

end

/-- Settles O39: an event enters EIT; of the effects a unit can commit in user mode, one instruction's keeps the PSW but for C or is
an entry, and a partner adds to it a write of C at most. -/
theorem userModeKeepsPsw : Obligations.UserModeKeepsPsw := by
  intro is len s t h huser
  suffices houtcome : (∀ b, b ≠ 0 → t.psw.getLsbD b = s.psw.getLsbD b)
      ∨ ∃ ev ret, EntersButCond ev ret s t ∧ (is.length ≠ 2 → t.psw = (enterEIT ev ret s).psw) from
    houtcome.imp_right fun ⟨ev, ret, hbut, hpsw⟩ => ⟨hbut.userMode, ev, ret, hbut.psw, hpsw, hbut.bpc, hbut.pc⟩
  rcases stepOf_unitNext h with ⟨ev, ret, ht⟩ | ⟨e, he, -, ht⟩
  · exact .inr ⟨ev, ret, .of_eq ht, fun _ => congrArg State.psw ht⟩
  · cases he with
    | single hi | cancelling hi =>
      rcases commit_of_user huser (s.pc + len) hi with hkeeps | ⟨ev, ret, henters⟩
      · exact .inl (ht ▸ hkeeps)
      · exact .inr ⟨ev, ret, .of_eq (ht.trans henters), fun _ => congrArg State.psw (ht.trans henters)⟩
    | merged hu hl =>
      have hregs := registerEffect_of_lower (lower_of_pairAllowed h.pairAllowed) hl
      rcases commit_mergeEffects_of_user huser (s.pc + len) hu hregs with hkeeps | ⟨ev, ret, henters⟩
      · exact .inl (ht ▸ hkeeps)
      · exact .inr ⟨ev, ret, ht ▸ henters, fun hlen => absurd rfl hlen⟩

end Sys2Proof.Machine
end

section
/-! The end of a run (`70_reset_and_hazards.md`, R399): a branch to its own word with nothing pending is a fixed point of the
step. -/

namespace Sys2Proof.Machine

/-- With nothing before it a step executes the unit fetched. -/
theorem step_eq_execUnit_fetchUnit {s : State} (h : Fetches s) : step s = execUnit (fetchUnit s) s := by
  rw [step_eq_execUnit h, fetchUnit, fetchAddress_eq_wordFloor]

/-- Displacement 0 names the word of the branch, which is the pc where that is aligned (R230). -/
theorem branchTarget_zero {n : Nat} {pc : Word} (h : pc.toNat % 4 = 0) : branchTarget pc (0 : BitVec n) = pc := by
  have hbase : wordBase pc = pc := fetchAddress_of_aligned (s := { State.reset with pc := pc }) h
  simp [branchTarget, sext_eq_ofInt, hbase]

/-- A jump to the pc changes nothing. -/
theorem commit_jumpTo_pc (next : Word) (s : State) : commit (jumpTo s.pc) next s = s := by
  cases s
  simp [commit, jumpTo, commitPsw, commitMem, commitWritten]

theorem finish_branchTarget_zero {s : State} (h : s.pc.toNat % 4 = 0) (len : Word) (n : Nat) :
    finish len (branchIf true (branchTarget s.pc (0 : BitVec n))) s = .next s := by
  rw [branchTarget_zero h, branchIf_of_taken rfl, finish_writes, commit_jumpTo_pc]

/-- Settles O59: either form of BRA is the jump to the pc. -/
theorem branchToSelfIsRest : Obligations.BranchToSelfIsRest := by
  rintro s ⟨hfetch, h0, h1, hunit⟩
  have haligned := (mod_four_iff s.pc).mpr ⟨h0, h1⟩
  rw [step_eq_execUnit_fetchUnit hfetch]
  rcases hunit with hunit | hunit
  · rw [hunit]
    exact finish_branchTarget_zero haligned 2 8
  · rw [hunit]
    exact finish_branchTarget_zero haligned 4 24

end Sys2Proof.Machine
end
